-- ==== Sys2Proof/Word.lean ====
section
/-!
DEFINITION. The two unsigned types of the spec (00_scope R9): `u8` and `u16`.
-/
namespace Sys2Proof

/-- `u8`: a byte of the bus, an 8-bit register. -/
abbrev Byte := BitVec 8

/-- `u16`: an address, a register pair, SP, PC. -/
abbrev Word := BitVec 16

end Sys2Proof
end

