-- ==== Sys2Proof/Machine/Bits.lean ====
section
/-!
DEFINITION. Bit-field, byte-order and sign-extension helpers of 00_scope R9 and R10.
-/
namespace Sys2Proof

/-- `v[15:8]`. -/
def hiByte (w : Word) : Byte := w.extractLsb' 8 8

/-- `v[7:0]`. -/
def loByte (w : Word) : Byte := w.extractLsb' 0 8

/-- `(hi, lo)` concatenated, the first in the high part (R9). -/
def join (hi lo : Byte) : Word := hi ++ lo

/-- `sext_16(v)` (R10). -/
def sext16 (v : Byte) : Word := v.signExtend 16

/-- `zext_16(v)` (R10). -/
def zext16 (v : Byte) : Word := v.setWidth 16

/-- The byte with bits 7, 6, 5, 4 as given and bits 3:0 zero: the layout of F (10_state R32, R33). -/
def flagByte (z n h c : Bool) : Byte :=
  (if z then 0x80#8 else 0#8) ||| (if n then 0x40#8 else 0#8) |||
    (if h then 0x20#8 else 0#8) ||| (if c then 0x10#8 else 0#8)

/-- `v` with its bits 3:0 cleared, what every write to F stores (10_state R33). -/
def clearLowNibble (v : Byte) : Byte := v &&& 0xF0#8

/-- The byte whose only set bit is bit `b`. -/
def bitMask (b : Fin 8) : Byte := 1#8 <<< b.val

/-- One bit as a byte: 0 or 1. -/
def bitByte (b : Bool) : Byte := if b then 1#8 else 0#8

end Sys2Proof
end

