-- ==== Sys2Proof/Config.lean ====
section
/-!
DEFINITION. The parameters of 00_scope R8: what is fixed for a run. The spec calls them OPEN and a model takes them as
arguments; here they are plain data that State carries and no step changes (notes/assumptions 1).
-/
namespace Sys2Proof

/-- `hwMode` (00_scope R3). -/
inductive HwMode where
  | dmg
  | cgb
  deriving DecidableEq, Repr

/-- The bank-controller variant (21_cartridge R140, R141). -/
inductive CartVariant where
  | noController
  | mbc1
  | mbc2
  | mbc3
  | mbc5
  deriving DecidableEq, Repr

/-- The cartridge configuration but its ROM image (21_cartridge R140). -/
structure CartConfig where
  variant  : CartVariant
  romBanks : Nat
  ramSize  : Nat
  battery  : Bool
  deriving DecidableEq, Repr

/-- One exception to the default of `apuRead`: a read of the register at `addr` that holds `stored` answers `value`. -/
structure ApuReadEntry where
  addr   : Nat
  stored : Byte
  value  : Byte
  deriving DecidableEq, Repr

/-- Everything that is configuration and not state (10_state R43). `apuRead` as a table of exceptions to its default
loses nothing: every function of an address and a byte is such a table (notes/assumptions 6). -/
structure Config where
  hwMode   : HwMode
  mode3Len : Nat
  cart     : CartConfig
  rom      : List Host.Cell
  apuRead  : List ApuReadEntry
  deriving DecidableEq, Repr

/-- The configuration State.reset takes: DESIGN CHOICE (notes/assumptions 3, 5, 6, 7). -/
def Config.default : Config :=
  { hwMode := .dmg
    mode3Len := 172
    cart := { variant := .noController, romBanks := 2, ramSize := 0, battery := false }
    rom := []
    apuRead := [] }

end Sys2Proof
end

