-- ==== Sys2Proof/Machine/Memory.lean ====
section
/-!
DEFINITION. A memory region as plain data: (index, byte) pairs with indices strictly rising and no pair equal to what an
unlisted index reads as. Reading and writing work on any list, so that the laws of reading after writing need no premise.
-/
namespace Sys2Proof

/-- A memory region: its listed cells. -/
abbrev Memory := List Host.Cell

/-- What an unlisted index reads as: `initMem` fixed to zero, DESIGN CHOICE (70_reset_and_hazards R616,
notes/assumptions 2). -/
def Memory.unlisted : Byte := 0#8

/-- The canonical form. -/
abbrev Memory.wf (m : Memory) : Prop :=
  m.Pairwise (fun x y => x.1 < y.1) ∧ ∀ c ∈ m, c.2 ≠ Memory.unlisted

/-- The byte at index `k`. -/
def Memory.read : Memory → Nat → Byte
  | [], _ => Memory.unlisted
  | c :: r, k => if c.1 = k then c.2 else Memory.read r k

/-- The region without the cell of index `k`. -/
def Memory.erase (m : Memory) (k : Nat) : Memory := m.filter (fun c => c.1 != k)

/-- The region with a cell put before the first larger index. -/
def Memory.insert : Memory → Nat → Byte → Memory
  | [], k, v => [(k, v)]
  | c :: r, k, v => if k < c.1 then (k, v) :: c :: r else c :: Memory.insert r k v

/-- The region after writing `v` at index `k`. -/
def Memory.write (m : Memory) (k : Nat) (v : Byte) : Memory :=
  if v = Memory.unlisted then m.erase k else (m.erase k).insert k v

/-- The region whose indices from `base` on hold the bytes of the list and which lists nothing else. -/
def Memory.ofBytes : Nat → List Byte → Memory
  | _, [] => []
  | base, v :: r =>
    if v = Memory.unlisted then Memory.ofBytes (base + 1) r else (base, v) :: Memory.ofBytes (base + 1) r

end Sys2Proof
end

