-- ==== Sys2Proof/Machine/State.lean ====
section
/-!
DEFINITION. The state of the core (10_state R43): plain data, one field for each piece of state the spec names, the configuration
`cfg` that no step changes, and the host side. Fields that are the model's own say so.
-/
namespace Sys2Proof.Machine

/-- Why a run stops or never starts. Both are raised by the loader of Machine/Load.lean only, safe: no step raises them
(21_cartridge R141, 60_exceptions R444). -/
inductive Fault where
  /-- A malformed or truncated ROM image: a load-time failure of `load`, safe: the run never starts. -/
  | malformedRom
  /-- A header byte 0x0147 that names no supported controller: a load-time failure of `load`, safe: the run never starts. -/
  | unsupportedController
  deriving DecidableEq, Repr

/-- Why the model gives no meaning. -/
inductive Refusal where
  /-- Raised by exec's arm of an instruction that has no meaning yet, safe: no arm raises it. -/
  | notModelled (mnemonic : String)
  /-- Raised by the CPU step if the fetched bytes were no instruction, safe: every fetch decodes, so no step raises it
  (notes/assumptions 19). -/
  | undecodable
  deriving DecidableEq, Repr

/-- `runMode` (10_state R38). -/
inductive RunMode where
  | running
  | halted
  | stopped
  deriving DecidableEq, Repr

/-- The CPU (10_state R30 to R41). -/
structure Cpu where
  a : Byte
  f : Byte
  b : Byte
  c : Byte
  d : Byte
  e : Byte
  h : Byte
  l : Byte
  sp : Word
  pc : Word
  ime : Bool
  imePending : Bool
  runMode : RunMode
  haltBug : Bool
  locked : Bool
  doubleSpeed : Bool
  speedPrepare : Bool
  /-- The MODEL'S OWN field: the T-cycles the last CPU step reported (60_exceptions R437, notes/assumptions 10). -/
  cost : Nat
  deriving DecidableEq, Repr

/-- The interrupt controller's latches (60_exceptions R431, R432). -/
structure Irq where
  ie : Byte
  ifl : BitVec 5
  deriving DecidableEq, Repr

/-- The timer (61_timer R480). -/
structure Timer where
  div : Word
  tima : Byte
  tma : Byte
  tac : BitVec 3
  reloadDelay : Nat
  deriving DecidableEq, Repr

/-- A pixel of the frame buffer (62_ppu R509): a shade in DMG mode, an RGB555 word in CGB mode (R529, R530). -/
inductive Colour where
  | shade (s : BitVec 2)
  | rgb (w : BitVec 15)
  deriving DecidableEq, Repr

/-- A frame: 144 lines of 160 pixels (62_ppu R509). -/
abbrev Frame := List (List Colour)

/-- The index register of a CGB palette memory, BCPS or OCPS (62_ppu R507, R508). -/
structure PaletteIndex where
  autoInc : Bool
  index : BitVec 6
  deriving DecidableEq, Repr

/-- The PPU (62_ppu R500 to R509). -/
structure Ppu where
  lcdc : Byte
  statEn : BitVec 4
  scy : Byte
  scx : Byte
  ly : Nat
  lyc : Byte
  bgp : Byte
  obp0 : Byte
  obp1 : Byte
  wy : Byte
  wx : Byte
  dot : Nat
  statLine : Bool
  winLine : Nat
  lineSprites : List Nat
  hblankEntered : Bool
  fb : Frame
  bcps : PaletteIndex
  bgPal : Memory
  ocps : PaletteIndex
  objPal : Memory
  deriving DecidableEq, Repr

/-- The eight buttons, true when pressed (63_io_devices R572). -/
structure Buttons where
  right : Bool
  left : Bool
  up : Bool
  down : Bool
  a : Bool
  b : Bool
  select : Bool
  start : Bool
  deriving DecidableEq, Repr

/-- No button pressed. -/
def Buttons.released : Buttons :=
  { right := false, left := false, up := false, down := false, a := false, b := false, select := false, start := false }

/-- The joypad register's state (63_io_devices R570). -/
structure Joypad where
  joySel : BitVec 2
  joyLines : BitVec 4
  deriving DecidableEq, Repr

/-- The serial port (63_io_devices R573): `sc` holds the stored bits of SC and zeros elsewhere. -/
structure Serial where
  sb : Byte
  sc : Byte
  count : Nat
  deriving DecidableEq, Repr

/-- The HDMA engine (63_io_devices R577). -/
structure Hdma where
  src : Word
  dst : BitVec 13
  len : BitVec 7
  active : Bool
  deriving DecidableEq, Repr

/-- The cartridge's mutable state (21_cartridge R140). MBC1 keeps `bank1` in `romBank` and `bank2` in `ramBank`. -/
structure Cart where
  ram : Memory
  ramEnable : Bool
  romBank : BitVec 9
  ramBank : Byte
  bankMode : Bool
  deriving DecidableEq, Repr

/-- The host side (60_exceptions R451, 70_reset_and_hazards R619). `inputs`, `frames` and `ramReports` are the MODEL'S OWN:
the button changes to come, one entry for each system step; the frames handed off and the RAM reports made, newest first
(notes/assumptions 8, 9). -/
structure HostSide where
  pressed : Buttons
  inputs : List (Option Buttons)
  frames : List Frame
  ramReports : List Host.Cell
  deriving DecidableEq, Repr

/-- The whole machine. -/
structure State where
  cfg : Config
  cpu : Cpu
  irq : Irq
  timer : Timer
  ppu : Ppu
  joypad : Joypad
  serial : Serial
  hdma : Hdma
  cart : Cart
  vram : Memory
  vbk : BitVec 1
  wram : Memory
  svbk : BitVec 3
  oam : Memory
  hram : Memory
  apu : Memory
  dmaReg : Byte
  host : HostSide
  deriving DecidableEq, Repr

/-- What the host fixes before the first step besides the configuration: the OPEN `divInit` and `initMem`
(70_reset_and_hazards R616, R620); `cartRam` is the battery image or `initMem`, `wave` the wave RAM at its addresses. -/
structure InitialData where
  divInit : Word
  vram : Memory
  wram : Memory
  oam : Memory
  hram : Memory
  wave : Memory
  bgPal : Memory
  objPal : Memory
  cartRam : Memory
  deriving DecidableEq, Repr

/-- The CPU right after reset (10_state R45, R46, R47). -/
def Cpu.reset : HwMode → Cpu
  | .dmg =>
    { a := 0x01, f := 0xB0, b := 0x00, c := 0x13, d := 0x00, e := 0xD8, h := 0x01, l := 0x4D
      sp := 0xFFFE, pc := 0x0100, ime := false, imePending := false, runMode := .running, haltBug := false
      locked := false, doubleSpeed := false, speedPrepare := false, cost := 0 }
  | .cgb =>
    { a := 0x11, f := 0x80, b := 0x00, c := 0x00, d := 0xFF, e := 0x56, h := 0x00, l := 0x0D
      sp := 0xFFFE, pc := 0x0100, ime := false, imePending := false, runMode := .running, haltBug := false
      locked := false, doubleSpeed := false, speedPrepare := false, cost := 0 }

/-- The pixel value 0 of a mode (70_reset_and_hazards R615, notes/assumptions 21). -/
def Colour.zero : HwMode → Colour
  | .dmg => .shade 0
  | .cgb => .rgb 0

/-- The frame buffer right after reset: every entry 0 (70_reset_and_hazards R615). -/
def Frame.blank (m : HwMode) : Frame := List.replicate 144 (List.replicate 160 (Colour.zero m))

/-- The PPU right after reset (70_reset_and_hazards R614, R615). -/
def Ppu.reset (m : HwMode) (bgPal objPal : Memory) : Ppu :=
  { lcdc := 0x91, statEn := 0, scy := 0x00, scx := 0x00, ly := 0, lyc := 0x00, bgp := 0xFC, obp0 := 0xFF, obp1 := 0xFF
    wy := 0x00, wx := 0x00, dot := 0, statLine := false, winLine := 0, lineSprites := [], hblankEntered := false
    fb := Frame.blank m
    bcps := { autoInc := false, index := 0 }, bgPal := bgPal
    ocps := { autoInc := false, index := 0 }, objPal := objPal }

/-- The APU registers right after reset (70_reset_and_hazards R617), by address; NR22, NR42 and NR43 hold 0x00. -/
def apuReset : Memory :=
  [(0xFF10, 0x80), (0xFF11, 0xBF), (0xFF12, 0xF3), (0xFF13, 0xFF), (0xFF14, 0xBF), (0xFF16, 0x3F), (0xFF18, 0xFF),
    (0xFF19, 0xBF), (0xFF1A, 0x7F), (0xFF1B, 0xFF), (0xFF1C, 0x9F), (0xFF1D, 0xFF), (0xFF1E, 0xBF), (0xFF20, 0xFF),
    (0xFF23, 0xBF), (0xFF24, 0x77), (0xFF25, 0xF3), (0xFF26, 0xF1)]

/-- The machine right after reset for any configuration and any initial data (70_reset_and_hazards R611 to R619). -/
def State.resetFor (cfg : Config) (d : InitialData) : State :=
  { cfg := cfg
    cpu := Cpu.reset cfg.hwMode
    irq := { ie := 0x00, ifl := 0x01 }
    timer := { div := d.divInit, tima := 0x00, tma := 0x00, tac := 0, reloadDelay := 0 }
    ppu := Ppu.reset cfg.hwMode d.bgPal d.objPal
    joypad := { joySel := 0, joyLines := 0xF }
    serial := { sb := 0x00, sc := 0x00, count := 0 }
    hdma := { src := 0, dst := 0, len := 0x7F, active := false }
    cart := { ram := d.cartRam, ramEnable := false, romBank := 1, ramBank := 0, bankMode := false }
    vram := d.vram
    vbk := 0
    wram := d.wram
    svbk := 0
    oam := d.oam
    hram := d.hram
    apu := apuReset ++ d.wave
    dmaReg := 0xFF
    host := { pressed := Buttons.released, inputs := [], frames := [], ramReports := [] } }

/-- The initial data State.reset takes: every memory lists nothing and the divider has the value decision D34 suggests,
DESIGN CHOICE (notes/assumptions 2, 4). -/
def InitialData.default : InitialData :=
  { divInit := 0xABCC, vram := [], wram := [], oam := [], hram := [], wave := [], bgPal := [], objPal := [], cartRam := [] }

/-- The machine right after reset. -/
def State.reset : State := State.resetFor Config.default InitialData.default

end Sys2Proof.Machine
end

