-- ==== Sys2Proof/Machine/Flags.lean ====
section
/-!
DEFINITION. The ALU with its flags (42_alu8 R280 to R312, 43_alu16 R331, R334, 44_rotate_shift R340 to R360, 45_bit R371). Sums and
differences are computed exactly and narrowed at the end, as R280 says.
-/
namespace Sys2Proof.Machine

/-- An 8-bit result with the flag byte that goes with it. -/
structure Flagged where
  value : Byte
  f : Byte
  deriving DecidableEq, Repr

/-- A 16-bit result with the flag byte that goes with it. -/
structure Flagged16 where
  value : Word
  f : Byte
  deriving DecidableEq, Repr

/-- A carry as a number. -/
def carryNat (c : Bool) : Nat := if c then 1 else 0

/-- `add8(a, b, c)` (42_alu8 R280). -/
def add8 (a b : Byte) (c : Bool) : Flagged :=
  let t := a.toNat + b.toNat + carryNat c
  let r := BitVec.ofNat 8 t
  { value := r
    f := flagByte (r == 0#8) false (decide (0x0F < a.toNat % 16 + b.toNat % 16 + carryNat c)) (decide (0xFF < t)) }

/-- `sub8(a, b, c)` (42_alu8 R280). -/
def sub8 (a b : Byte) (c : Bool) : Flagged :=
  let r := BitVec.ofInt 8 ((a.toNat : Int) - b.toNat - carryNat c)
  { value := r
    f := flagByte (r == 0#8) true (decide (a.toNat % 16 < b.toNat % 16 + carryNat c))
      (decide (a.toNat < b.toNat + carryNat c)) }

/-- AND: H is set (42_alu8 R293). -/
def and8 (a b : Byte) : Flagged := { value := a &&& b, f := flagByte (a &&& b == 0#8) false true false }

/-- XOR (42_alu8 R296). -/
def xor8 (a b : Byte) : Flagged := { value := a ^^^ b, f := flagByte (a ^^^ b == 0#8) false false false }

/-- OR (42_alu8 R299). -/
def or8 (a b : Byte) : Flagged := { value := a ||| b, f := flagByte (a ||| b == 0#8) false false false }

/-- CP: the flags of a subtraction, A unchanged (42_alu8 R302). -/
def cp8 (a b : Byte) : Flagged := { value := a, f := (sub8 a b false).f }

/-- The ALU operation of R186 on A and an operand; `c` is F.C before the instruction (42_alu8 R281 to R304). -/
def alu8 (o : AluOp) (a v : Byte) (c : Bool) : Flagged :=
  match o with
  | .add => add8 a v false
  | .adc => add8 a v c
  | .sub => sub8 a v false
  | .sbc => sub8 a v c
  | .and => and8 a v
  | .xor => xor8 a v
  | .or => or8 a v
  | .cp => cp8 a v

/-- INC of a byte; `c` is F.C, which is kept (42_alu8 R305). -/
def inc8 (v : Byte) (c : Bool) : Flagged :=
  { value := v + 1, f := flagByte (v + 1 == 0#8) false (decide (v.toNat % 16 = 0x0F)) c }

/-- DEC of a byte; `c` is F.C, which is kept (42_alu8 R307). -/
def dec8 (v : Byte) (c : Bool) : Flagged :=
  { value := v - 1, f := flagByte (v - 1 == 0#8) true (decide (v.toNat % 16 = 0)) c }

/-- Whether DAA adjusts the high digit; this is also its C flag (42_alu8 R309). -/
def daaHigh (a : Byte) (n c : Bool) : Bool := c || (!n && decide (0x99 < a.toNat))

/-- Whether DAA adjusts the low digit (42_alu8 R309). -/
def daaLow (a : Byte) (n h : Bool) : Bool := h || (!n && decide (0x09 < a.toNat % 16))

/-- DAA of A with the flags N, H and C (42_alu8 R309). -/
def daa8 (a : Byte) (n h c : Bool) : Flagged :=
  let d := (if daaHigh a n c then 0x60#8 else 0#8) + (if daaLow a n h then 0x06#8 else 0#8)
  let r := if n then a - d else a + d
  { value := r, f := flagByte (r == 0#8) n false (daaHigh a n c) }

/-- The sum of ADD HL,rr; `z` is F.Z, which is kept (43_alu16 R331). -/
def addHl16 (a b : Word) (z : Bool) : Flagged16 :=
  let t := a.toNat + b.toNat
  { value := BitVec.ofNat 16 t
    f := flagByte z false (decide (0x0FFF < a.toNat % 0x1000 + b.toNat % 0x1000)) (decide (0xFFFF < t)) }

/-- SP plus a displacement, with the flags of the unsigned additions of the raw byte (43_alu16 R334, 41_load16_stack R264). -/
def addSp16 (sp : Word) (e : Byte) : Flagged16 :=
  { value := sp + sext16 e
    f := flagByte false false (decide (0x0F < sp.toNat % 16 + e.toNat % 16)) (decide (0xFF < sp.toNat % 256 + e.toNat)) }

/-- The result of a rotate or shift; `c` is F.C before the instruction (44_rotate_shift R345 to R360). -/
def shiftValue (o : ShiftOp) (v : Byte) (c : Bool) : Byte :=
  match o with
  | .rlc => (v <<< 1) ||| bitByte (v.getLsbD 7)
  | .rrc => (v >>> 1) ||| (bitByte (v.getLsbD 0) <<< 7)
  | .rl => (v <<< 1) ||| bitByte c
  | .rr => (v >>> 1) ||| (bitByte c <<< 7)
  | .sla => v <<< 1
  | .sra => (v >>> 1) ||| (v &&& 0x80#8)
  | .swap => ((v &&& 0x0F#8) <<< 4) ||| (v >>> 4)
  | .srl => v >>> 1

/-- The C flag of a rotate or shift: the bit shifted out (44_rotate_shift R345 to R360). -/
def shiftCarry (o : ShiftOp) (v : Byte) : Bool :=
  match o with
  | .rlc | .rl | .sla => v.getLsbD 7
  | .rrc | .rr | .sra | .srl => v.getLsbD 0
  | .swap => false

/-- A CB rotate or shift: Z from the result (44_rotate_shift R340). -/
def shift8 (o : ShiftOp) (v : Byte) (c : Bool) : Flagged :=
  { value := shiftValue o v c, f := flagByte (shiftValue o v c == 0#8) false false (shiftCarry o v) }

/-- An accumulator rotate RLCA, RRCA, RLA, RRA: Z is always 0 (44_rotate_shift R340 to R344). -/
def rotateA8 (o : ShiftOp) (v : Byte) (c : Bool) : Flagged :=
  { value := shiftValue o v c, f := flagByte false false false (shiftCarry o v) }

/-- The flag byte of BIT b; `c` is F.C, which is kept (45_bit R371). -/
def bitFlags (b : Fin 8) (v : Byte) (c : Bool) : Byte := flagByte (!v.getLsbD b.val) false true c

/-- RES b of a byte (45_bit R373). -/
def resetBit (b : Fin 8) (v : Byte) : Byte := v &&& ~~~bitMask b

/-- SET b of a byte (45_bit R375). -/
def setBit (b : Fin 8) (v : Byte) : Byte := v ||| bitMask b

end Sys2Proof.Machine
end

