-- ==== Sys2Proof/Machine/Cartridge.lean ====
section
/-!
DEFINITION. The cartridge bank controller (21_cartridge): the bytes its ROM and RAM windows answer and what its control writes do.
-/
namespace Sys2Proof.Machine

/-- The ROM bank mapped at 0x0000-0x3FFF, `b0` (21_cartridge R144, R146, R148, R150, R152). -/
def State.romBankLow (s : State) : Nat :=
  match s.cfg.cart.variant with
  | .mbc1 => if s.cart.bankMode then s.cart.ramBank.toNat <<< 5 else 0
  | .noController | .mbc2 | .mbc3 | .mbc5 => 0

/-- The ROM bank mapped at 0x4000-0x7FFF, `bX` (21_cartridge R144, R146, R148, R150, R152). -/
def State.romBankHigh (s : State) : Nat :=
  match s.cfg.cart.variant with
  | .noController => 1
  | .mbc1 => s.cart.ramBank.toNat <<< 5 ||| s.cart.romBank.toNat
  | .mbc2 | .mbc3 | .mbc5 => s.cart.romBank.toNat

/-- The index in the ROM image of address `a` of 0x0000-0x7FFF (21_cartridge R142). -/
def State.romIndex (s : State) (a : Nat) : Nat :=
  let b := if a < 0x4000 then s.romBankLow else s.romBankHigh
  (b % s.cfg.cart.romBanks) * 0x4000 + a % 0x4000

/-- The byte of the ROM window at address `a` (20_memory R82). -/
def State.romRead (s : State) (a : Nat) : Byte := Memory.read s.cfg.rom (s.romIndex a)

/-- The RAM bank `r` (21_cartridge R144, R146, R151, R153), or none where the variant selects no RAM (R151). -/
def State.ramBankSelected (s : State) : Option Nat :=
  match s.cfg.cart.variant with
  | .noController | .mbc2 => some 0
  | .mbc1 => some (if s.cart.bankMode then s.cart.ramBank.toNat else 0)
  | .mbc3 => if s.cart.ramBank.toNat ≤ 3 then some s.cart.ramBank.toNat else none
  | .mbc5 => some s.cart.ramBank.toNat

/-- `ramAccessible` (21_cartridge R143). -/
def State.ramAccessible (s : State) : Bool :=
  decide (0 < s.cfg.cart.ramSize) && (decide (s.cfg.cart.variant = .noController) || s.cart.ramEnable)

/-- `ramIndex(r, a)` (21_cartridge R143). -/
def State.ramIndex (s : State) (r a : Nat) : Nat := (r * 0x2000 + a % 0x2000) % s.cfg.cart.ramSize

/-- The index in cartridge RAM of address `a` of 0xA000-0xBFFF, or none where RAM is not accessible: R143 with the variant's
bank, but for MBC2, whose cells repeat by their own rule (21_cartridge R143, R147, R149, R151, R153). -/
def State.cartRamIndex (s : State) (a : Nat) : Option Nat :=
  match s.cfg.cart.variant with
  | .mbc2 => if s.cart.ramEnable then some (a % 0x200) else none
  | .noController | .mbc1 | .mbc3 | .mbc5 =>
    match s.ramBankSelected with
    | some r => if s.ramAccessible then some (s.ramIndex r a) else none
    | none => none

/-- The byte of the RAM window at address `a`; 0xFF where RAM is not accessible (21_cartridge R143, R149). -/
def State.cartRamRead (s : State) (a : Nat) : Byte :=
  match s.cartRamIndex a with
  | some k =>
    match s.cfg.cart.variant with
    | .mbc2 => 0xF0#8 ||| Memory.read s.cart.ram k
    | .noController | .mbc1 | .mbc3 | .mbc5 => Memory.read s.cart.ram k
  | none => 0xFF#8

/-- The value a RAM write stores: MBC2 cells hold four bits (21_cartridge R149). -/
def State.cartRamStored (s : State) (v : Byte) : Byte :=
  match s.cfg.cart.variant with
  | .mbc2 => v &&& 0x0F#8
  | .noController | .mbc1 | .mbc3 | .mbc5 => v

/-- A write of the RAM window; dropped where RAM is not accessible, reported to the host where it changes battery RAM
(21_cartridge R143, R149, R154). -/
def State.cartRamWrite (s : State) (a : Nat) (v : Byte) : State :=
  match s.cartRamIndex a with
  | none => s
  | some k =>
    let w := s.cartRamStored v
    let t := { s with cart.ram := Memory.write s.cart.ram k w }
    if s.cfg.cart.battery = true ∧ Memory.read s.cart.ram k ≠ w then
      { t with host.ramReports := (k, w) :: t.host.ramReports }
    else t

/-- Whether a write to a RAM-enable range enables RAM (21_cartridge R156). -/
def enablesRam (v : Byte) : Bool := v &&& 0x0F#8 == 0x0A#8

/-- A bank number with 0 replaced by 1 (21_cartridge R145, R148, R150). -/
def zeroToOne (b : BitVec 9) : BitVec 9 := if b = 0#9 then 1#9 else b

/-- A control write of MBC1 (21_cartridge R145). -/
def Cart.controlMbc1 (c : Cart) (a : Nat) (v : Byte) : Cart :=
  if a < 0x2000 then { c with ramEnable := enablesRam v }
  else if a < 0x4000 then { c with romBank := zeroToOne ((v &&& 0x1F#8).setWidth 9) }
  else if a < 0x6000 then { c with ramBank := v &&& 0x03#8 }
  else { c with bankMode := v.getLsbD 0 }

/-- A control write of MBC2, decoded by address bit 8 (21_cartridge R148). -/
def Cart.controlMbc2 (c : Cart) (a : Nat) (v : Byte) : Cart :=
  if a < 0x4000 then
    if a.testBit 8 then { c with romBank := zeroToOne ((v &&& 0x0F#8).setWidth 9) }
    else { c with ramEnable := enablesRam v }
  else c

/-- A control write of MBC3 (21_cartridge R150). -/
def Cart.controlMbc3 (c : Cart) (a : Nat) (v : Byte) : Cart :=
  if a < 0x2000 then { c with ramEnable := enablesRam v }
  else if a < 0x4000 then { c with romBank := zeroToOne ((v &&& 0x7F#8).setWidth 9) }
  else if a < 0x6000 then { c with ramBank := v }
  else c

/-- A control write of MBC5 (21_cartridge R152). -/
def Cart.controlMbc5 (c : Cart) (a : Nat) (v : Byte) : Cart :=
  if a < 0x2000 then { c with ramEnable := enablesRam v }
  else if a < 0x3000 then { c with romBank := c.romBank.extractLsb' 8 1 ++ v }
  else if a < 0x4000 then { c with romBank := v.extractLsb' 0 1 ++ c.romBank.extractLsb' 0 8 }
  else if a < 0x6000 then { c with ramBank := v &&& 0x0F#8 }
  else c

/-- A write to 0x0000-0x7FFF: it stores nothing and is decoded by the variant (20_memory R82, 21_cartridge R144). -/
def State.cartControl (s : State) (a : Nat) (v : Byte) : State :=
  match s.cfg.cart.variant with
  | .noController => s
  | .mbc1 => { s with cart := s.cart.controlMbc1 a v }
  | .mbc2 => { s with cart := s.cart.controlMbc2 a v }
  | .mbc3 => { s with cart := s.cart.controlMbc3 a v }
  | .mbc5 => { s with cart := s.cart.controlMbc5 a v }

end Sys2Proof.Machine
end

