-- ==== Sys2Proof/Machine/Interrupts.lean ====
section
/-!
DEFINITION. The interrupt controller (60_exceptions R430 to R435): sources, requests, the pending set, acknowledge.
-/
namespace Sys2Proof.Machine

/-- The five sources in priority order, the highest first (60_exceptions R430). -/
inductive IrqSource where
  | vblank
  | stat
  | timer
  | serial
  | joypad
  deriving DecidableEq, Repr

/-- The bit number k of a source (60_exceptions R430). -/
def IrqSource.bit : IrqSource → Nat
  | .vblank => 0
  | .stat => 1
  | .timer => 2
  | .serial => 3
  | .joypad => 4

/-- The vector of a source, `0x0040 + 8k` (60_exceptions R430). -/
def IrqSource.vector (k : IrqSource) : Word := 0x0040#16 + BitVec.ofNat 16 (8 * k.bit)

/-- The mask of a source's bit in IF. -/
def IrqSource.mask (k : IrqSource) : BitVec 5 := 1#5 <<< k.bit

/-- `request(k)`: `IF[k] <- 1` (60_exceptions R433). -/
def State.request (s : State) (k : IrqSource) : State := { s with irq.ifl := s.irq.ifl ||| k.mask }

/-- `request(k)` if the condition holds. -/
def State.requestIf (s : State) (p : Bool) (k : IrqSource) : State := if p then s.request k else s

/-- `acknowledge(k)`: `IF[k] <- 0` (60_exceptions R435). -/
def State.acknowledge (s : State) (k : IrqSource) : State := { s with irq.ifl := s.irq.ifl &&& ~~~k.mask }

/-- `pend = IE & IF & 0x1F` (60_exceptions R434). -/
def State.pend (s : State) : BitVec 5 := s.irq.ie.extractLsb' 0 5 &&& s.irq.ifl

/-- The lowest set bit of a pending set, if any: the highest priority (60_exceptions R434). -/
def lowestSource (p : BitVec 5) : Option IrqSource :=
  if p.getLsbD 0 then some .vblank
  else if p.getLsbD 1 then some .stat
  else if p.getLsbD 2 then some .timer
  else if p.getLsbD 3 then some .serial
  else if p.getLsbD 4 then some .joypad
  else none

/-- `next_pending()` (60_exceptions R434). -/
def State.nextPending (s : State) : Option IrqSource := lowestSource s.pend

end Sys2Proof.Machine
end

