-- ==== Sys2Proof/Machine/Joypad.lean ====
section
/-!
DEFINITION. The joypad (63_io_devices R570 to R572) and the host's input move (60_exceptions R451).
-/
namespace Sys2Proof.Machine

/-- `dirPressed`: line 0 Right, 1 Left, 2 Up, 3 Down (63_io_devices R570). -/
def Buttons.dirPressed (b : Buttons) : BitVec 4 :=
  BitVec.ofBool b.down ++ BitVec.ofBool b.up ++ BitVec.ofBool b.left ++ BitVec.ofBool b.right

/-- `actPressed`: line 0 A, 1 B, 2 Select, 3 Start (63_io_devices R570). -/
def Buttons.actPressed (b : Buttons) : BitVec 4 :=
  BitVec.ofBool b.start ++ BitVec.ofBool b.select ++ BitVec.ofBool b.b ++ BitVec.ofBool b.a

/-- `lines()` (63_io_devices R570). -/
def State.lines (s : State) : BitVec 4 :=
  0xF#4 &&& ~~~(if s.joypad.joySel.getLsbD 0 then 0#4 else s.host.pressed.dirPressed) &&&
    ~~~(if s.joypad.joySel.getLsbD 1 then 0#4 else s.host.pressed.actPressed)

/-- `joypadLineLow()` (63_io_devices R570). -/
def State.joypadLineLow (s : State) : Bool := decide (s.lines ≠ 0xF#4)

/-- `evalJoypad()` (63_io_devices R571). -/
def State.evalJoypad (s : State) : State :=
  State.requestIf { s with joypad.joyLines := s.lines } (decide (s.joypad.joyLines &&& ~~~s.lines ≠ 0#4)) .joypad

/-- The byte a read of P1 returns (63_io_devices R570). -/
def State.p1Read (s : State) : Byte := 0b11#2 ++ s.joypad.joySel ++ s.lines

/-- A write to P1 (63_io_devices R570). -/
def State.p1Write (s : State) (v : Byte) : State :=
  State.evalJoypad { s with joypad.joySel := v.extractLsb' 4 2 }

/-- The host changes the buttons (63_io_devices R572). -/
def State.setButtons (s : State) (b : Buttons) : State := State.evalJoypad { s with host.pressed := b }

/-- The host's move before a system step: the head of the input queue, if any (60_exceptions R451, notes/assumptions 8). -/
def State.takeHostInput (s : State) : State :=
  match s.host.inputs with
  | [] => s
  | none :: r => { s with host.inputs := r }
  | some b :: r => State.setButtons { s with host.inputs := r } b

end Sys2Proof.Machine
end

