-- ==== Sys2Proof/Machine/Ppu.lean ====
section
/-!
DEFINITION. The PPU's mode machine and its registers' special behaviour (62_ppu R500 to R520): modes, the STAT line, the LCD switch,
the dot, sprite selection, the palette index registers. The renderer is in Machine/Render.lean.
-/
namespace Sys2Proof.Machine

/-- The PPU modes (62_ppu R513). -/
inductive PpuMode where
  | hblank
  | vblank
  | oamScan
  | transfer
  deriving DecidableEq, Repr

/-- The STAT encoding of a mode (62_ppu R501, R513). -/
def PpuMode.number : PpuMode → BitVec 2
  | .hblank => 0
  | .vblank => 1
  | .oamScan => 2
  | .transfer => 3

/-- LCDC[7]. -/
def Ppu.lcdOn (p : Ppu) : Bool := p.lcdc.getLsbD 7

/-- `ppuMode` (62_ppu R513). -/
def Ppu.mode (p : Ppu) (mode3Len : Nat) : PpuMode :=
  if p.lcdOn = false then .hblank
  else if 144 ≤ p.ly then .vblank
  else if p.dot < 80 then .oamScan
  else if p.dot < 80 + mode3Len then .transfer
  else .hblank

/-- `ppuMode` of the machine. -/
def State.ppuMode (s : State) : PpuMode := s.ppu.mode s.cfg.mode3Len

/-- `LY = LYC` (62_ppu R516). -/
def Ppu.coincidence (p : Ppu) : Bool := decide (p.ly = p.lyc.toNat)

/-- `vramLocked` (20_memory R95). -/
def State.vramLocked (s : State) : Bool := s.ppu.lcdOn && decide (s.ppuMode = .transfer)

/-- `oamLocked` (20_memory R95). -/
def State.oamLocked (s : State) : Bool :=
  s.ppu.lcdOn && (decide (s.ppuMode = .oamScan) || decide (s.ppuMode = .transfer))

/-- The byte a read of STAT returns (62_ppu R501). -/
def State.statRead (s : State) : Byte :=
  1#1 ++ s.ppu.statEn ++ BitVec.ofBool s.ppu.coincidence ++ s.ppuMode.number

/-- The level of the shared STAT line: STAT bits 3, 4, 5 and 6 are `statEn` bits 0, 1, 2 and 3 (62_ppu R517, R518). -/
def Ppu.statLevel (p : Ppu) (m : PpuMode) : Bool :=
  (p.statEn.getLsbD 0 && decide (m = .hblank)) || (p.statEn.getLsbD 1 && decide (m = .vblank)) ||
    (p.statEn.getLsbD 2 && decide (m = .oamScan)) || (p.statEn.getLsbD 3 && p.coincidence)

/-- `evalStatLine()` (62_ppu R518). -/
def State.evalStatLine (s : State) : State :=
  let line := s.ppu.statLevel s.ppuMode
  State.requestIf { s with ppu.statLine := line } (line && !s.ppu.statLine) .stat

/-- A write to LCDC, with the LCD switch of bit 7 (62_ppu R500, R519). -/
def Ppu.writeLcdc (p : Ppu) (v : Byte) : Ppu :=
  if p.lcdOn = true ∧ v.getLsbD 7 = false then { p with lcdc := v, ly := 0, dot := 0, statLine := false }
  else if p.lcdOn = false ∧ v.getLsbD 7 = true then { p with lcdc := v, ly := 0, dot := 0, winLine := 0 }
  else { p with lcdc := v }

/-- The dot counter's and LY's part of one dot (62_ppu R514). -/
def Ppu.advanceDot (p : Ppu) : Ppu :=
  if p.dot + 1 = 456 then
    let ly := (p.ly + 1) % 154
    { p with dot := 0, ly := ly, winLine := if ly = 0 then 0 else p.winLine }
  else { p with dot := p.dot + 1 }

/-- The height of a sprite (62_ppu R520). -/
def Ppu.objHeight (p : Ppu) : Nat := if p.lcdc.getLsbD 2 then 16 else 8

/-- Whether the sprite of OAM index `i` meets the current line (62_ppu R520). -/
def State.spriteOnLine (s : State) (i : Nat) : Bool :=
  let y := (Memory.read s.oam (4 * i)).toNat
  decide (y ≤ s.ppu.ly + 16 ∧ s.ppu.ly + 16 < y + s.ppu.objHeight)

/-- `selectSprites()`: the first ten in OAM order (62_ppu R520). -/
def State.selectSprites (s : State) : State :=
  { s with ppu.lineSprites := ((List.range 40).filter s.spriteOnLine).take 10 }

/-- The byte a read of BCPS or OCPS returns (62_ppu R507). -/
def PaletteIndex.read (p : PaletteIndex) : Byte := BitVec.ofBool p.autoInc ++ 1#1 ++ p.index

/-- What a write of BCPS or OCPS stores (62_ppu R507). -/
def PaletteIndex.ofByte (v : Byte) : PaletteIndex := { autoInc := v.getLsbD 7, index := v.extractLsb' 0 6 }

/-- The index after a write of BCPD or OCPD (62_ppu R507). -/
def PaletteIndex.afterWrite (p : PaletteIndex) : PaletteIndex :=
  if p.autoInc then { p with index := p.index + 1 } else p

end Sys2Proof.Machine
end

