-- ==== Sys2Proof/Machine/Render.lean ====
section
/-!
DEFINITION. The line renderer (62_ppu R510, R511, R521 to R530): a whole line is composed at the entry to mode 3.
-/
namespace Sys2Proof.Machine

/-- A background or window pixel: its colour index and its attribute byte (62_ppu R522). -/
structure TilePixel where
  colour : BitVec 2
  attr : Byte
  deriving DecidableEq, Repr

/-- A sprite pixel that is not transparent (62_ppu R525). -/
structure ObjPixel where
  colour : BitVec 2
  attr : Byte
  x : Nat
  index : Nat
  deriving DecidableEq, Repr

/-- The byte of VRAM at an offset of the whole store; the PPU ignores the lock (62_ppu R510). -/
def State.vramByte (s : State) (off : Nat) : Byte := Memory.read s.vram off

/-- The colour index of column `col` (0 leftmost) of the tile row at VRAM offset `off` (62_ppu R510). -/
def State.tileRowColour (s : State) (off col : Nat) : BitVec 2 :=
  BitVec.ofBool ((s.vramByte (off + 1)).getLsbD (7 - col)) ++ BitVec.ofBool ((s.vramByte off).getLsbD (7 - col))

/-- The VRAM offset within a bank of background tile `t` (62_ppu R510, R522). -/
def Ppu.tileOffset (p : Ppu) (t : Byte) : Nat :=
  if p.lcdc.getLsbD 4 then 16 * t.toNat
  else if t.toNat < 128 then 0x1000 + 16 * t.toNat
  else 0x0800 + 16 * (t.toNat - 128)

/-- `x` mirrored in `0 .. n - 1` if the flip bit is set. -/
def flipIf (flip : Bool) (n x : Nat) : Nat := if flip then n - 1 - x else x

/-- `tilePixel(base, px, py)`, with the map's base as a VRAM offset (62_ppu R522). -/
def State.tilePixel (s : State) (base px py : Nat) : TilePixel :=
  let off := base + 32 * (py / 8) + px / 8
  let t := s.vramByte off
  let attr := match s.cfg.hwMode with
    | .dmg => 0#8
    | .cgb => s.vramByte (0x2000 + off)
  let row := flipIf (attr.getLsbD 6) 8 (py % 8)
  let col := flipIf (attr.getLsbD 5) 8 (px % 8)
  let bank := if attr.getLsbD 3 then 0x2000 else 0
  { colour := s.tileRowColour (bank + s.ppu.tileOffset t + 2 * row) col, attr := attr }

/-- The VRAM offset of a tile map, by its LCDC bit (62_ppu R500, R522). -/
def mapBase (bit : Bool) : Nat := if bit then 0x1C00 else 0x1800

/-- `bgPixel(x)` (62_ppu R522). -/
def State.bgPixel (s : State) (x : Nat) : TilePixel :=
  s.tilePixel (mapBase (s.ppu.lcdc.getLsbD 3)) ((x + s.ppu.scx.toNat) % 256) ((s.ppu.ly + s.ppu.scy.toNat) % 256)

/-- `winOn(LY)` (62_ppu R523). -/
def State.winOn (s : State) : Bool :=
  s.ppu.lcdc.getLsbD 5 && decide (s.ppu.wy.toNat ≤ s.ppu.ly) && decide (s.ppu.wx.toNat ≤ 166) &&
    (decide (s.cfg.hwMode = .cgb) || s.ppu.lcdc.getLsbD 0)

/-- Whether the window covers column `x` (62_ppu R523). -/
def State.winCovers (s : State) (x : Nat) : Bool := s.winOn && decide (s.ppu.wx.toNat ≤ x + 7)

/-- The background or window pixel at column `x` (62_ppu R522, R523). -/
def State.backPixel (s : State) (x : Nat) : TilePixel :=
  if s.winCovers x then s.tilePixel (mapBase (s.ppu.lcdc.getLsbD 6)) (x + 7 - s.ppu.wx.toNat) s.ppu.winLine
  else s.bgPixel x

/-- `objPixel(i, x)` (62_ppu R525). -/
def State.objPixel (s : State) (i x : Nat) : Option ObjPixel :=
  let oamY := (Memory.read s.oam (4 * i)).toNat
  let oamX := (Memory.read s.oam (4 * i + 1)).toNat
  let t := (Memory.read s.oam (4 * i + 2)).toNat
  let a := Memory.read s.oam (4 * i + 3)
  let h := s.ppu.objHeight
  if s.ppu.lcdc.getLsbD 1 = true ∧ oamX ≤ x + 8 ∧ x < oamX then
    let row := flipIf (a.getLsbD 6) h (s.ppu.ly + 16 - oamY)
    let col := flipIf (a.getLsbD 5) 8 (x + 8 - oamX)
    let tile := if h = 16 then t / 2 * 2 + row / 8 else t
    let bank := if s.cfg.hwMode = .cgb ∧ a.getLsbD 3 = true then 0x2000 else 0
    let c := s.tileRowColour (bank + 16 * tile + 2 * (if h = 16 then row % 8 else row)) col
    if c = 0#2 then none else some { colour := c, attr := a, x := oamX, index := i }
  else none

/-- The better of two sprite pixels: the smaller X, then the smaller OAM index (62_ppu R526). -/
def ObjPixel.better (p q : ObjPixel) : ObjPixel :=
  if q.x < p.x ∨ (q.x = p.x ∧ q.index < p.index) then q else p

/-- The winning sprite pixel at column `x` among the line's sprites (62_ppu R526). -/
def State.winningObj (s : State) (x : Nat) : Option ObjPixel :=
  (s.ppu.lineSprites.filterMap (fun i => s.objPixel i x)).foldl
    (fun best q => match best with
      | none => some q
      | some p => some (p.better q)) none

/-- The shade a DMG palette gives a colour index (62_ppu R505). -/
def dmgShade (pal : Byte) (c : BitVec 2) : BitVec 2 := (pal >>> (2 * c.toNat)).setWidth 2

/-- The colour of a CGB palette memory: palette `p`, colour `c`, 15 bits (62_ppu R507, R530). -/
def cgbColour (pal : Memory) (p : BitVec 3) (c : BitVec 2) : BitVec 15 :=
  let k := 8 * p.toNat + 2 * c.toNat
  (join (Memory.read pal (k + 1)) (Memory.read pal k)).setWidth 15

/-- `composeDMG(x)` (62_ppu R527). -/
def State.composeDmg (s : State) (x : Nat) : BitVec 2 :=
  let b := if s.ppu.lcdc.getLsbD 0 then (s.backPixel x).colour else 0#2
  let back := if s.ppu.lcdc.getLsbD 0 then dmgShade s.ppu.bgp b else 0#2
  match s.winningObj x with
  | none => back
  | some o =>
    if o.attr.getLsbD 7 = true ∧ b ≠ 0#2 then back
    else dmgShade (if o.attr.getLsbD 4 then s.ppu.obp1 else s.ppu.obp0) o.colour

/-- `composeCGB(x)` (62_ppu R528). -/
def State.composeCgb (s : State) (x : Nat) : BitVec 15 :=
  let p := s.backPixel x
  let back := cgbColour s.ppu.bgPal (p.attr.extractLsb' 0 3) p.colour
  match s.winningObj x with
  | none => back
  | some o =>
    if s.ppu.lcdc.getLsbD 0 = false ∨ p.colour = 0#2 ∨ (p.attr.getLsbD 7 = false ∧ o.attr.getLsbD 7 = false) then
      cgbColour s.ppu.objPal (o.attr.extractLsb' 0 3) o.colour
    else back

/-- `compose(x)` (62_ppu R521). -/
def State.compose (s : State) (x : Nat) : Colour :=
  match s.cfg.hwMode with
  | .dmg => .shade (s.composeDmg x)
  | .cgb => .rgb (s.composeCgb x)

/-- `renderLine()`: the line of the frame buffer, then the window's line counter (62_ppu R521, R524). -/
def State.renderLine (s : State) : State :=
  { s with
    ppu.fb := s.ppu.fb.set s.ppu.ly ((List.range 160).map s.compose)
    ppu.winLine := if s.winOn then s.ppu.winLine + 1 else s.ppu.winLine }

/-- `handOffFrame()`: the host receives a copy of the frame buffer (62_ppu R515, notes/assumptions 9). -/
def State.handOffFrame (s : State) : State := { s with host.frames := s.ppu.fb :: s.host.frames }

/-- What entering a mode does (62_ppu R514, R515). -/
def State.enterMode (s : State) (m : PpuMode) : State :=
  match m with
  | .oamScan => s
  | .transfer => s.selectSprites.renderLine
  | .hblank => if s.ppu.ly < 144 then { s with ppu.hblankEntered := true } else s
  | .vblank => (s.request .vblank).handOffFrame

/-- `ppuTick()` (62_ppu R514). -/
def State.ppuTick (s : State) : State :=
  let s0 := { s with ppu.hblankEntered := false }
  if s0.ppu.lcdOn = false then s0
  else
    let s1 := { s0 with ppu := s0.ppu.advanceDot }
    State.evalStatLine (if s1.ppuMode = s0.ppuMode then s1 else s1.enterMode s1.ppuMode)

end Sys2Proof.Machine
end

