-- ==== Sys2Proof/Machine/Serial.lean ====
section
/-!
DEFINITION. The serial port (63_io_devices R573, R574): no partner is attached.
-/
namespace Sys2Proof.Machine

/-- The byte a read of SC returns (63_io_devices R573). -/
def State.scRead (s : State) : Byte :=
  match s.cfg.hwMode with
  | .dmg => 0x7E#8 ||| (s.serial.sc &&& 0x81#8)
  | .cgb => 0x7C#8 ||| (s.serial.sc &&& 0x83#8)

/-- The bits a write of SC stores: bits 7 and 0, and in CGB mode bit 1 (63_io_devices R573, notes/assumptions 14). -/
def scStored (m : HwMode) (v : Byte) : Byte :=
  match m with
  | .dmg => v &&& 0x81#8
  | .cgb => v &&& 0x83#8

/-- A write to SC: a start with the internal clock takes 4096 device cycles, any other write stops a transfer
(63_io_devices R574). -/
def State.scWrite (s : State) (v : Byte) : State :=
  { s with
    serial.sc := scStored s.cfg.hwMode v
    serial.count := if v.getLsbD 7 && v.getLsbD 0 then 4096 else 0 }

/-- `serialTick()` (63_io_devices R574). -/
def State.serialTick (s : State) : State :=
  if s.serial.count = 0 then s
  else if s.serial.count = 1 then
    State.request { s with serial := { sb := 0xFF, sc := s.serial.sc &&& 0x7F#8, count := 0 } } .serial
  else { s with serial.count := s.serial.count - 1 }

end Sys2Proof.Machine
end

