-- ==== Sys2Proof/Machine/Timer.lean ====
section
/-!
DEFINITION. The timer (61_timer R480 to R491): the divider, the falling-edge increment, the delayed reload, the writes.
-/
namespace Sys2Proof.Machine

/-- The divider bit that TAC[1:0] selects (61_timer R485). -/
def timerSelect (tac : BitVec 3) : Nat :=
  match (tac.extractLsb' 0 2).toNat with
  | 0 => 9
  | 1 => 3
  | 2 => 5
  | _ => 7

/-- `timerIn()` (61_timer R485). -/
def Timer.input (t : Timer) : Bool := t.tac.getLsbD 2 && t.div.getLsbD (timerSelect t.tac)

/-- `incTIMA()` (61_timer R486, R487). -/
def Timer.incTima (t : Timer) : Timer :=
  if t.tima = 0xFF#8 then { t with tima := 0x00, reloadDelay := 4 } else { t with tima := t.tima + 1 }

/-- `incTIMA()` if the timer input was 1 and is 0 now (61_timer R485). -/
def Timer.fallingEdge (t : Timer) (old : Bool) : Timer := if old && !t.input then t.incTima else t

/-- The divider's count of one device cycle, with the increment it may cause (61_timer R486). -/
def Timer.countDiv (t : Timer) : Timer := Timer.fallingEdge { t with div := t.div + 1 } t.input

/-- The pending reload's part of one device cycle (61_timer R486). -/
def Timer.countReload (t : Timer) : Timer :=
  if t.reloadDelay = 1 then { t with reloadDelay := 0, tima := t.tma } else { t with reloadDelay := t.reloadDelay - 1 }

/-- `timerTick()`: one device cycle; the reload requests the Timer interrupt (61_timer R486, R487). -/
def State.timerTick (s : State) : State :=
  State.requestIf { s with timer := s.timer.countReload.countDiv } (decide (s.timer.reloadDelay = 1)) .timer

/-- `resetDivider()` (61_timer R488). -/
def Timer.resetDivider (t : Timer) : Timer := Timer.fallingEdge { t with div := 0 } t.input

/-- A write to TAC (61_timer R489). -/
def Timer.writeTac (t : Timer) (v : Byte) : Timer := Timer.fallingEdge { t with tac := v.extractLsb' 0 3 } t.input

/-- A write to TIMA, which cancels a pending reload (61_timer R490). -/
def Timer.writeTima (t : Timer) (v : Byte) : Timer := { t with tima := v, reloadDelay := 0 }

/-- A write to TMA (61_timer R491). -/
def Timer.writeTma (t : Timer) (v : Byte) : Timer := { t with tma := v }

end Sys2Proof.Machine
end

