-- ==== Sys2Proof/Machine/Bus.lean ====
section
/-!
DEFINITION. The memory bus (20_memory R80 to R110): the address decoder, the reads, the writes with their side effects, OAM DMA and
the HDMA copies (63_io_devices R576 to R580).
-/
namespace Sys2Proof.Machine

/-- The registers of the I/O window (20_memory R91); `apu k` is the APU register at 0xFF00 + k. -/
inductive IoReg where
  | p1 | sb | sc | div | tima | tma | tac | ifReg
  | apu (k : Nat)
  | lcdc | stat | scy | scx | ly | lyc | dma | bgp | obp0 | obp1 | wy | wx
  | key1 | vbk | bootRom | hdma1 | hdma2 | hdma3 | hdma4 | hdma5 | bcps | bcpd | ocps | ocpd | svbk
  deriving DecidableEq, Repr

/-- Whether 0xFF00 + k is a mapped APU register (20_memory R91). -/
def apuMapped (k : Nat) : Bool :=
  decide (0x10 ≤ k ∧ k ≤ 0x14) || decide (0x16 ≤ k ∧ k ≤ 0x1E) || decide (0x20 ≤ k ∧ k ≤ 0x26) ||
    decide (0x30 ≤ k ∧ k ≤ 0x3F)

/-- The registers of both modes at 0xFF00 + k (20_memory R91). -/
def ioRegBoth (k : Nat) : Option IoReg :=
  match k with
  | 0x00 => some .p1
  | 0x01 => some .sb
  | 0x02 => some .sc
  | 0x04 => some .div
  | 0x05 => some .tima
  | 0x06 => some .tma
  | 0x07 => some .tac
  | 0x0F => some .ifReg
  | 0x40 => some .lcdc
  | 0x41 => some .stat
  | 0x42 => some .scy
  | 0x43 => some .scx
  | 0x44 => some .ly
  | 0x45 => some .lyc
  | 0x46 => some .dma
  | 0x47 => some .bgp
  | 0x48 => some .obp0
  | 0x49 => some .obp1
  | 0x4A => some .wy
  | 0x4B => some .wx
  | 0x50 => some .bootRom
  | _ => if apuMapped k then some (.apu k) else none

/-- The registers of CGB mode alone at 0xFF00 + k (20_memory R91, 63_io_devices R582). -/
def ioRegCgb (k : Nat) : Option IoReg :=
  match k with
  | 0x4D => some .key1
  | 0x4F => some .vbk
  | 0x51 => some .hdma1
  | 0x52 => some .hdma2
  | 0x53 => some .hdma3
  | 0x54 => some .hdma4
  | 0x55 => some .hdma5
  | 0x68 => some .bcps
  | 0x69 => some .bcpd
  | 0x6A => some .ocps
  | 0x6B => some .ocpd
  | 0x70 => some .svbk
  | _ => none

/-- The register at 0xFF00 + k, or none where it is unmapped (20_memory R91). -/
def ioRegAt (m : HwMode) (k : Nat) : Option IoReg :=
  match m with
  | .dmg => ioRegBoth k
  | .cgb => (ioRegBoth k).orElse (fun _ => ioRegCgb k)

/-- The one device an address resolves to, with the index in its store (20_memory R81). -/
inductive Place where
  | rom (a : Nat)
  | vram (k : Nat)
  | cartRam (a : Nat)
  | wram (k : Nat)
  | oam (k : Nat)
  | unusable
  | io (r : IoReg)
  | unmapped
  | hram (k : Nat)
  | ie
  deriving DecidableEq, Repr

/-- The VRAM index of an address of 0x8000-0x9FFF (20_memory R83, R84). -/
def State.vramIndex (s : State) (a : Nat) : Nat :=
  match s.cfg.hwMode with
  | .dmg => a - 0x8000
  | .cgb => s.vbk.toNat * 0x2000 + (a - 0x8000)

/-- The WRAM bank of 0xD000-0xDFFF (20_memory R86, R87). -/
def State.wramBank (s : State) : Nat :=
  match s.cfg.hwMode with
  | .dmg => 1
  | .cgb => if s.svbk = 0#3 then 1 else s.svbk.toNat

/-- The WRAM index of an address of 0xC000-0xDFFF (20_memory R86). -/
def State.wramIndex (s : State) (a : Nat) : Nat :=
  if a < 0xD000 then a - 0xC000 else s.wramBank * 0x1000 + (a - 0xD000)

/-- The address decoder (20_memory R81, R88, R90 to R93). -/
def State.place (s : State) (addr : Word) : Place :=
  let a := addr.toNat
  if a < 0x8000 then .rom a
  else if a < 0xA000 then .vram (s.vramIndex a)
  else if a < 0xC000 then .cartRam a
  else if a < 0xE000 then .wram (s.wramIndex a)
  else if a < 0xFE00 then .wram (s.wramIndex (a - 0x2000))
  else if a < 0xFEA0 then .oam (a - 0xFE00)
  else if a < 0xFF00 then .unusable
  else if a < 0xFF80 then
    match ioRegAt s.cfg.hwMode (a - 0xFF00) with
    | some r => .io r
    | none => .unmapped
  else if a < 0xFFFF then .hram (a - 0xFF80)
  else .ie

/-- `apuRead(a, stored)`: the table of exceptions, else the stored byte (63_io_devices R575, notes/assumptions 6). -/
def Config.apuReadValue (cfg : Config) (addr : Nat) (stored : Byte) : Byte :=
  match cfg.apuRead.find? (fun x => decide (x.addr = addr ∧ x.stored = stored)) with
  | some x => x.value
  | none => stored

/-- The byte a read of an I/O register returns (20_memory R91 and the register's rule). -/
def State.ioRead (s : State) (r : IoReg) : Byte :=
  match r with
  | .p1 => s.p1Read
  | .sb => s.serial.sb
  | .sc => s.scRead
  | .div => s.timer.div.extractLsb' 8 8
  | .tima => s.timer.tima
  | .tma => s.timer.tma
  | .tac => 0b11111#5 ++ s.timer.tac
  | .ifReg => 0b111#3 ++ s.irq.ifl
  | .apu k => Config.apuReadValue s.cfg (0xFF00 + k) (Memory.read s.apu (0xFF00 + k))
  | .lcdc => s.ppu.lcdc
  | .stat => s.statRead
  | .scy => s.ppu.scy
  | .scx => s.ppu.scx
  | .ly => BitVec.ofNat 8 s.ppu.ly
  | .lyc => s.ppu.lyc
  | .dma => s.dmaReg
  | .bgp => s.ppu.bgp
  | .obp0 => s.ppu.obp0
  | .obp1 => s.ppu.obp1
  | .wy => s.ppu.wy
  | .wx => s.ppu.wx
  | .key1 => BitVec.ofBool s.cpu.doubleSpeed ++ 0b111111#6 ++ BitVec.ofBool s.cpu.speedPrepare
  | .vbk => 0b1111111#7 ++ s.vbk
  | .bootRom => 0xFF#8
  | .hdma1 | .hdma2 | .hdma3 | .hdma4 => 0xFF#8
  | .hdma5 => BitVec.ofBool (!s.hdma.active) ++ s.hdma.len
  | .bcps => s.ppu.bcps.read
  | .bcpd => Memory.read s.ppu.bgPal s.ppu.bcps.index.toNat
  | .ocps => s.ppu.ocps.read
  | .ocpd => Memory.read s.ppu.objPal s.ppu.ocps.index.toNat
  | .svbk => 0b11111#5 ++ s.svbk

/-- A read of a place; the PPU lock is honoured for the CPU and ignored for the DMA engines (20_memory R94, R95). -/
def State.readPlace (s : State) (honourLock : Bool) (p : Place) : Byte :=
  match p with
  | .rom a => s.romRead a
  | .vram k => if honourLock && s.vramLocked then 0xFF#8 else Memory.read s.vram k
  | .cartRam a => s.cartRamRead a
  | .wram k => Memory.read s.wram k
  | .oam k => if honourLock && s.oamLocked then 0xFF#8 else Memory.read s.oam k
  | .unusable => 0xFF#8
  | .io r => s.ioRead r
  | .unmapped => 0xFF#8
  | .hram k => Memory.read s.hram k
  | .ie => s.irq.ie

/-- `MemRead(addr, 1)`: a CPU read of the bus. It changes no state (20_memory R80, R101). -/
def State.busRead (s : State) (addr : Word) : Byte := s.readPlace true (s.place addr)

/-- `dmaRead(a)`: a read of the bus that ignores the lock (63_io_devices R576). -/
def State.dmaRead (s : State) (addr : Word) : Byte := s.readPlace false (s.place addr)

/-- The first source address of an OAM DMA copy (63_io_devices R576). -/
def oamDmaSource (v : Byte) : Word :=
  let src := v ++ 0#8
  if 0xE0 ≤ v.toNat then src - 0x2000#16 else src

/-- The first `n` bytes of an OAM DMA copy from `src`, in increasing order (63_io_devices R576, 20_memory R108). -/
def State.oamCopy (s : State) (src : Word) : Nat → State
  | 0 => s
  | n + 1 =>
    let t := s.oamCopy src n
    { t with oam := Memory.write t.oam n (t.dmaRead (src + BitVec.ofNat 16 n)) }

/-- A write to DMA: the whole copy (63_io_devices R576). -/
def State.oamDma (s : State) (v : Byte) : State :=
  State.oamCopy { s with dmaReg := v } (oamDmaSource v) 160

/-- One byte of an HDMA block copy (63_io_devices R577). -/
def State.hdmaByte (s : State) : State :=
  { s with
    vram := Memory.write s.vram (s.vbk.toNat * 0x2000 + s.hdma.dst.toNat) (s.dmaRead s.hdma.src)
    hdma.src := s.hdma.src + 1
    hdma.dst := s.hdma.dst + 1 }

/-- `n` bytes of HDMA copying. -/
def State.hdmaBytes (s : State) : Nat → State
  | 0 => s
  | n + 1 => (s.hdmaBytes n).hdmaByte

/-- `copyBlock()`: 16 bytes (63_io_devices R577). -/
def State.copyBlock (s : State) : State := s.hdmaBytes 16

/-- `n` blocks at once (63_io_devices R578). -/
def State.copyBlocks (s : State) : Nat → State
  | 0 => s
  | n + 1 => (s.copyBlocks n).copyBlock

/-- A write to HDMA5 (63_io_devices R578, R579). -/
def State.hdma5Write (s : State) (v : Byte) : State :=
  if v.getLsbD 7 then { s with hdma.len := v.extractLsb' 0 7, hdma.active := true }
  else if s.hdma.active then { s with hdma.active := false }
  else
    let t := s.copyBlocks ((v.extractLsb' 0 7).toNat + 1)
    { t with hdma.len := 0x7F }

/-- `hdmaTick()` (63_io_devices R579). -/
def State.hdmaTick (s : State) : State :=
  if s.hdma.active && s.ppu.hblankEntered then
    let t := s.copyBlock
    if t.hdma.len = 0#7 then { t with hdma.active := false, hdma.len := 0x7F }
    else { t with hdma.len := t.hdma.len - 1 }
  else s

/-- A write to an I/O register (20_memory R91, R101 and the register's rule). -/
def State.ioWrite (s : State) (r : IoReg) (v : Byte) : State :=
  match r with
  | .p1 => s.p1Write v
  | .sb => { s with serial.sb := v }
  | .sc => s.scWrite v
  | .div => { s with timer := s.timer.resetDivider }
  | .tima => { s with timer := s.timer.writeTima v }
  | .tma => { s with timer := s.timer.writeTma v }
  | .tac => { s with timer := s.timer.writeTac v }
  | .ifReg => { s with irq.ifl := v.extractLsb' 0 5 }
  | .apu k => { s with apu := Memory.write s.apu (0xFF00 + k) v }
  | .lcdc => { s with ppu := s.ppu.writeLcdc v }
  | .stat => { s with ppu.statEn := v.extractLsb' 3 4 }
  | .scy => { s with ppu.scy := v }
  | .scx => { s with ppu.scx := v }
  | .ly => s
  | .lyc => { s with ppu.lyc := v }
  | .dma => s.oamDma v
  | .bgp => { s with ppu.bgp := v }
  | .obp0 => { s with ppu.obp0 := v }
  | .obp1 => { s with ppu.obp1 := v }
  | .wy => { s with ppu.wy := v }
  | .wx => { s with ppu.wx := v }
  | .key1 => { s with cpu.speedPrepare := v.getLsbD 0 }
  | .vbk => { s with vbk := v.extractLsb' 0 1 }
  | .bootRom => s
  | .hdma1 => { s with hdma.src := v ++ s.hdma.src.extractLsb' 0 8 }
  | .hdma2 => { s with hdma.src := s.hdma.src.extractLsb' 8 8 ++ (v &&& 0xF0#8) }
  | .hdma3 => { s with hdma.dst := v.extractLsb' 0 5 ++ s.hdma.dst.extractLsb' 0 8 }
  | .hdma4 => { s with hdma.dst := s.hdma.dst.extractLsb' 8 5 ++ (v &&& 0xF0#8) }
  | .hdma5 => s.hdma5Write v
  | .bcps => { s with ppu.bcps := PaletteIndex.ofByte v }
  | .bcpd =>
    { s with
      ppu.bgPal := Memory.write s.ppu.bgPal s.ppu.bcps.index.toNat v
      ppu.bcps := s.ppu.bcps.afterWrite }
  | .ocps => { s with ppu.ocps := PaletteIndex.ofByte v }
  | .ocpd =>
    { s with
      ppu.objPal := Memory.write s.ppu.objPal s.ppu.ocps.index.toNat v
      ppu.ocps := s.ppu.ocps.afterWrite }
  | .svbk => { s with svbk := v.extractLsb' 0 3 }

/-- A CPU write of a place: every write completes, a refused one is dropped (20_memory R80, R94, R95). -/
def State.writePlace (s : State) (p : Place) (v : Byte) : State :=
  match p with
  | .rom a => s.cartControl a v
  | .vram k => if s.vramLocked then s else { s with vram := Memory.write s.vram k v }
  | .cartRam a => s.cartRamWrite a v
  | .wram k => { s with wram := Memory.write s.wram k v }
  | .oam k => if s.oamLocked then s else { s with oam := Memory.write s.oam k v }
  | .unusable => s
  | .io r => s.ioWrite r v
  | .unmapped => s
  | .hram k => { s with hram := Memory.write s.hram k v }
  | .ie => { s with irq.ie := v }

/-- `MemWrite(addr, 1, v)`: a CPU write of the bus (20_memory R80). -/
def State.busWrite (s : State) (addr : Word) (v : Byte) : State := s.writePlace (s.place addr) v

end Sys2Proof.Machine
end

