-- ==== Sys2Proof/Machine/Ops.lean ====
section
/-!
DEFINITION. The named operations of the CPU: registers and pairs (10_state), the stack (20_memory R102), the cost a step reports, the
interrupt dispatch and the return from it (60_exceptions R438, 46_control R390), the lock-up (47_system R417).
-/
namespace Sys2Proof.Machine

/-- What a meaning answers. -/
abbrev Result := Host.Outcome State Fault Refusal

/-- `x[i]` (00_scope R10, 30_encoding R182). -/
def Cpu.getReg (u : Cpu) (r : Reg8) : Byte :=
  match r with
  | .b => u.b
  | .c => u.c
  | .d => u.d
  | .e => u.e
  | .h => u.h
  | .l => u.l
  | .a => u.a

/-- `x[i] <- v` (00_scope R10, 30_encoding R182). -/
def Cpu.setReg (u : Cpu) (r : Reg8) (v : Byte) : Cpu :=
  match r with
  | .b => { u with b := v }
  | .c => { u with c := v }
  | .d => { u with d := v }
  | .e => { u with e := v }
  | .h => { u with h := v }
  | .l => { u with l := v }
  | .a => { u with a := v }

/-- `xx[dd]`: the first-named register is the high byte (10_state R31, 30_encoding R183). -/
def Cpu.getPair (u : Cpu) (p : Pair) : Word :=
  match p with
  | .bc => join u.b u.c
  | .de => join u.d u.e
  | .hl => join u.h u.l
  | .sp => u.sp

/-- `xx[dd] <- v` (10_state R31, 30_encoding R183). -/
def Cpu.setPair (u : Cpu) (p : Pair) (v : Word) : Cpu :=
  match p with
  | .bc => { u with b := hiByte v, c := loByte v }
  | .de => { u with d := hiByte v, e := loByte v }
  | .hl => { u with h := hiByte v, l := loByte v }
  | .sp => { u with sp := v }

/-- `xx[qq]` (10_state R31, 30_encoding R184). -/
def Cpu.getStackPair (u : Cpu) (q : StackPair) : Word :=
  match q with
  | .bc => join u.b u.c
  | .de => join u.d u.e
  | .hl => join u.h u.l
  | .af => join u.a u.f

/-- `xx[qq] <- v`; a write to F stores its bits 3:0 as zeros (10_state R33, 30_encoding R184). -/
def Cpu.setStackPair (u : Cpu) (q : StackPair) (v : Word) : Cpu :=
  match q with
  | .bc => { u with b := hiByte v, c := loByte v }
  | .de => { u with d := hiByte v, e := loByte v }
  | .hl => { u with h := hiByte v, l := loByte v }
  | .af => { u with a := hiByte v, f := clearLowNibble (loByte v) }

/-- F.Z (10_state R32). -/
def Cpu.flagZ (u : Cpu) : Bool := u.f.getLsbD 7

/-- F.N (10_state R32). -/
def Cpu.flagN (u : Cpu) : Bool := u.f.getLsbD 6

/-- F.H (10_state R32). -/
def Cpu.flagH (u : Cpu) : Bool := u.f.getLsbD 5

/-- F.C (10_state R32). -/
def Cpu.flagC (u : Cpu) : Bool := u.f.getLsbD 4

/-- `x[r]`. -/
def State.getReg (s : State) (r : Reg8) : Byte := s.cpu.getReg r

/-- `x[r] <- v`. -/
def State.setReg (s : State) (r : Reg8) (v : Byte) : State := { s with cpu := s.cpu.setReg r v }

/-- `xx[dd]`. -/
def State.getPair (s : State) (p : Pair) : Word := s.cpu.getPair p

/-- `xx[dd] <- v`. -/
def State.setPair (s : State) (p : Pair) (v : Word) : State := { s with cpu := s.cpu.setPair p v }

/-- `xx[qq]`. -/
def State.getStackPair (s : State) (q : StackPair) : Word := s.cpu.getStackPair q

/-- `xx[qq] <- v`. -/
def State.setStackPair (s : State) (q : StackPair) (v : Word) : State := { s with cpu := s.cpu.setStackPair q v }

/-- HL. -/
def State.hl (s : State) : Word := s.cpu.getPair .hl

/-- A write to F: bits 3:0 are stored as zeros (10_state R33). -/
def State.setF (s : State) (v : Byte) : State := { s with cpu.f := clearLowNibble v }

/-- `PC <- target`. -/
def State.setPc (s : State) (v : Word) : State := { s with cpu.pc := v }

/-- `cycles c`: the cost the CPU step reports (00_scope R10, 60_exceptions R437). -/
def State.charge (s : State) (c : Nat) : State := { s with cpu.cost := c }

/-- One byte of a push: SP is decremented and the byte written at the new SP (20_memory R102). -/
def State.push8 (s : State) (v : Byte) : State :=
  State.busWrite { s with cpu.sp := s.cpu.sp - 1 } (s.cpu.sp - 1) v

/-- `Push16(v)`: the high byte first (20_memory R102). -/
def State.push16 (s : State) (v : Word) : State := (s.push8 (hiByte v)).push8 (loByte v)

/-- The word `Pop16()` returns: the low byte at SP (20_memory R102). -/
def State.stackTop (s : State) : Word := join (s.busRead (s.cpu.sp + 1)) (s.busRead s.cpu.sp)

/-- What `Pop16()` does to SP (20_memory R102). -/
def State.dropStack (s : State) : State := { s with cpu.sp := s.cpu.sp + 2 }

/-- `MemWrite(a, 2, v)`: the low byte first, the second address wrapping (20_memory R97). -/
def State.busWrite16 (s : State) (a v : Word) : State := (s.busWrite a (loByte v)).busWrite (a + 1) (hiByte v)

/-- `resetDivider()` of the machine (61_timer R488). -/
def State.resetDivider (s : State) : State := { s with timer := s.timer.resetDivider }

/-- The address a dispatch pushes: PC, or the address of the HALT if the HALT bug is armed (60_exceptions R438, R439). -/
def State.dispatchReturn (s : State) : Word := if s.cpu.haltBug then s.cpu.pc - 1 else s.cpu.pc

/-- `dispatch(k)`: the interrupt entry: push the return address, clear IME and the EI delay, acknowledge, jump to the vector;
20 T-cycles (60_exceptions R438, R439). -/
def State.dispatch (s : State) (k : IrqSource) : State :=
  let s1 := State.push16 { s with cpu.haltBug := false } s.dispatchReturn
  let s2 := State.acknowledge { s1 with cpu.ime := false, cpu.imePending := false } k
  (s2.setPc k.vector).charge 20

/-- The return from an interrupt: pop PC, then set IME at once and cancel an EI delay (46_control R390). -/
def State.returnFromInterrupt (s : State) : State :=
  let t := s.dropStack.setPc s.stackTop
  { t with cpu.ime := true, cpu.imePending := false }

/-- `raise Lockup(opcode)` (47_system R417). -/
def State.lockUp (s : State) : State := { s with cpu.locked := true }

end Sys2Proof.Machine
end

