-- ==== Sys2Proof/Machine/Operands.lean ====
section
/-!
DEFINITION. The operand forms (30_encoding R182, R188 to R190, 40_load8): where a memory operand lies and what its use does to HL, the
second operand of the ALU, the conditions.
-/
namespace Sys2Proof.Machine

/-- The memory operands of the 8-bit loads (40_load8 R223 to R239). -/
inductive MemOperand where
  /-- `(HL)` -/
  | hl
  /-- `(BC)` -/
  | bc
  /-- `(DE)` -/
  | de
  /-- `(HL+)` -/
  | hlInc
  /-- `(HL-)` -/
  | hlDec
  /-- `(nn)` -/
  | abs (nn : Word)
  /-- `(C)` of LDH -/
  | highC
  /-- `(n)` of LDH -/
  | highN (n : Byte)
  deriving DecidableEq, Repr

/-- The address of a memory operand (40_load8 R223 to R239, 30_encoding R188). -/
def State.memAddr (s : State) (m : MemOperand) : Word :=
  match m with
  | .hl | .hlInc | .hlDec => s.hl
  | .bc => s.getPair .bc
  | .de => s.getPair .de
  | .abs nn => nn
  | .highC => 0xFF00#16 + zext16 s.cpu.c
  | .highN n => 0xFF00#16 + zext16 n

/-- What the use of a memory operand does to HL afterwards (40_load8 R236 to R239). -/
def State.memPost (s : State) (m : MemOperand) : State :=
  match m with
  | .hlInc => s.setPair .hl (s.hl + 1)
  | .hlDec => s.setPair .hl (s.hl - 1)
  | .hl | .bc | .de | .abs _ | .highC | .highN _ => s

/-- The second operand of an ALU instruction (42_alu8 R280). -/
inductive AluSrc where
  | reg (r : Reg8)
  | mHL
  | imm (n : Byte)
  deriving DecidableEq, Repr

/-- The value of an ALU operand (42_alu8 R280). -/
def State.aluValue (s : State) (x : AluSrc) : Byte :=
  match x with
  | .reg r => s.getReg r
  | .mHL => s.busRead s.hl
  | .imm n => n

/-- The cost of an ALU instruction by its operand (30_encoding R200). -/
def AluSrc.cost : AluSrc → Nat
  | .reg _ => 4
  | .mHL | .imm _ => 8

/-- `cond(cc)` on the flags before the instruction (30_encoding R185, 46_control R380). -/
def State.cond (s : State) (cc : Cond) : Bool :=
  match cc with
  | .nz => !s.cpu.flagZ
  | .z => s.cpu.flagZ
  | .nc => !s.cpu.flagC
  | .c => s.cpu.flagC

end Sys2Proof.Machine
end

