-- ==== Sys2Proof/Machine/Alu16.lean ====
section
/-!
DEFINITION. The 16-bit arithmetic (43_alu16 R331 to R334).
-/
namespace Sys2Proof.Machine

/-- `ADD HL,rr` (43_alu16 R331). -/
def State.addHl (s : State) (p : Pair) : State :=
  let r := addHl16 s.hl (s.getPair p) s.cpu.flagZ
  ((s.setPair .hl r.value).setF r.f).charge 8

/-- `INC rr` (43_alu16 R332). -/
def State.incPair (s : State) (p : Pair) : State := (s.setPair p (s.getPair p + 1)).charge 8

/-- `DEC rr` (43_alu16 R333). -/
def State.decPair (s : State) (p : Pair) : State := (s.setPair p (s.getPair p - 1)).charge 8

/-- `ADD SP,e` (43_alu16 R334). -/
def State.addSp (s : State) (e : Byte) : State :=
  let r := addSp16 s.cpu.sp e
  ((s.setPair .sp r.value).setF r.f).charge 16

/-- `INC BC` (43_alu16 R332). -/
def execInc_BC (s : State) : Result := .next (s.incPair .bc)

/-- `ADD HL,BC` (43_alu16 R331). -/
def execAdd_HL_BC (s : State) : Result := .next (s.addHl .bc)

/-- `DEC BC` (43_alu16 R333). -/
def execDec_BC (s : State) : Result := .next (s.decPair .bc)

/-- `INC DE` (43_alu16 R332). -/
def execInc_DE (s : State) : Result := .next (s.incPair .de)

/-- `ADD HL,DE` (43_alu16 R331). -/
def execAdd_HL_DE (s : State) : Result := .next (s.addHl .de)

/-- `DEC DE` (43_alu16 R333). -/
def execDec_DE (s : State) : Result := .next (s.decPair .de)

/-- `INC HL` (43_alu16 R332). -/
def execInc_HL (s : State) : Result := .next (s.incPair .hl)

/-- `ADD HL,HL` (43_alu16 R331). -/
def execAdd_HL_HL (s : State) : Result := .next (s.addHl .hl)

/-- `DEC HL` (43_alu16 R333). -/
def execDec_HL (s : State) : Result := .next (s.decPair .hl)

/-- `INC SP` (43_alu16 R332). -/
def execInc_SP (s : State) : Result := .next (s.incPair .sp)

/-- `ADD HL,SP` (43_alu16 R331). -/
def execAdd_HL_SP (s : State) : Result := .next (s.addHl .sp)

/-- `DEC SP` (43_alu16 R333). -/
def execDec_SP (s : State) : Result := .next (s.decPair .sp)

/-- `ADD SP,e` (43_alu16 R334). -/
def execAdd_SP_e (e : Byte) (s : State) : Result := .next (s.addSp e)

end Sys2Proof.Machine
end

