-- ==== Sys2Proof/Machine/Alu8.lean ====
section
/-!
DEFINITION. The 8-bit arithmetic and logic (42_alu8 R281 to R312).
-/
namespace Sys2Proof.Machine

/-- An ALU operation on A and an operand (42_alu8 R281 to R304). -/
def State.alu (s : State) (o : AluOp) (x : AluSrc) : State :=
  let r := alu8 o s.cpu.a (s.aluValue x) s.cpu.flagC
  ((s.setReg .a r.value).setF r.f).charge x.cost

/-- `INC r` (42_alu8 R305). -/
def State.incReg (s : State) (dst : Reg8) : State :=
  let r := inc8 (s.getReg dst) s.cpu.flagC
  ((s.setReg dst r.value).setF r.f).charge 4

/-- `INC (HL)` (42_alu8 R306). -/
def State.incMem (s : State) : State :=
  let r := inc8 (s.busRead s.hl) s.cpu.flagC
  ((s.busWrite s.hl r.value).setF r.f).charge 12

/-- `DEC r` (42_alu8 R307). -/
def State.decReg (s : State) (dst : Reg8) : State :=
  let r := dec8 (s.getReg dst) s.cpu.flagC
  ((s.setReg dst r.value).setF r.f).charge 4

/-- `DEC (HL)` (42_alu8 R308). -/
def State.decMem (s : State) : State :=
  let r := dec8 (s.busRead s.hl) s.cpu.flagC
  ((s.busWrite s.hl r.value).setF r.f).charge 12

/-- `DAA` (42_alu8 R309). -/
def State.daaOp (s : State) : State :=
  let r := daa8 s.cpu.a s.cpu.flagN s.cpu.flagH s.cpu.flagC
  ((s.setReg .a r.value).setF r.f).charge 4

/-- `CPL` (42_alu8 R310). -/
def State.cplOp (s : State) : State :=
  ((s.setReg .a (s.cpu.a ^^^ 0xFF#8)).setF (flagByte s.cpu.flagZ true true s.cpu.flagC)).charge 4

/-- `SCF` (42_alu8 R311). -/
def State.scfOp (s : State) : State := (s.setF (flagByte s.cpu.flagZ false false true)).charge 4

/-- `CCF` (42_alu8 R312). -/
def State.ccfOp (s : State) : State := (s.setF (flagByte s.cpu.flagZ false false (!s.cpu.flagC))).charge 4

/-- `INC B` (42_alu8 R305). -/
def execInc_B (s : State) : Result := .next (s.incReg .b)

/-- `DEC B` (42_alu8 R307). -/
def execDec_B (s : State) : Result := .next (s.decReg .b)

/-- `INC C` (42_alu8 R305). -/
def execInc_C (s : State) : Result := .next (s.incReg .c)

/-- `DEC C` (42_alu8 R307). -/
def execDec_C (s : State) : Result := .next (s.decReg .c)

/-- `INC D` (42_alu8 R305). -/
def execInc_D (s : State) : Result := .next (s.incReg .d)

/-- `DEC D` (42_alu8 R307). -/
def execDec_D (s : State) : Result := .next (s.decReg .d)

/-- `INC E` (42_alu8 R305). -/
def execInc_E (s : State) : Result := .next (s.incReg .e)

/-- `DEC E` (42_alu8 R307). -/
def execDec_E (s : State) : Result := .next (s.decReg .e)

/-- `INC H` (42_alu8 R305). -/
def execInc_H (s : State) : Result := .next (s.incReg .h)

/-- `DEC H` (42_alu8 R307). -/
def execDec_H (s : State) : Result := .next (s.decReg .h)

/-- `DAA` (42_alu8 R309). -/
def execDaa (s : State) : Result := .next (s.daaOp)

/-- `INC L` (42_alu8 R305). -/
def execInc_L (s : State) : Result := .next (s.incReg .l)

/-- `DEC L` (42_alu8 R307). -/
def execDec_L (s : State) : Result := .next (s.decReg .l)

/-- `CPL` (42_alu8 R310). -/
def execCpl (s : State) : Result := .next (s.cplOp)

/-- `INC (HL)` (42_alu8 R306). -/
def execInc_mHL (s : State) : Result := .next (s.incMem)

/-- `DEC (HL)` (42_alu8 R308). -/
def execDec_mHL (s : State) : Result := .next (s.decMem)

/-- `SCF` (42_alu8 R311). -/
def execScf (s : State) : Result := .next (s.scfOp)

/-- `INC A` (42_alu8 R305). -/
def execInc_A (s : State) : Result := .next (s.incReg .a)

/-- `DEC A` (42_alu8 R307). -/
def execDec_A (s : State) : Result := .next (s.decReg .a)

/-- `CCF` (42_alu8 R312). -/
def execCcf (s : State) : Result := .next (s.ccfOp)

/-- `ADD A,B` (42_alu8 R281). -/
def execAdd_A_B (s : State) : Result := .next (s.alu .add (.reg .b))

/-- `ADD A,C` (42_alu8 R281). -/
def execAdd_A_C (s : State) : Result := .next (s.alu .add (.reg .c))

/-- `ADD A,D` (42_alu8 R281). -/
def execAdd_A_D (s : State) : Result := .next (s.alu .add (.reg .d))

/-- `ADD A,E` (42_alu8 R281). -/
def execAdd_A_E (s : State) : Result := .next (s.alu .add (.reg .e))

/-- `ADD A,H` (42_alu8 R281). -/
def execAdd_A_H (s : State) : Result := .next (s.alu .add (.reg .h))

/-- `ADD A,L` (42_alu8 R281). -/
def execAdd_A_L (s : State) : Result := .next (s.alu .add (.reg .l))

/-- `ADD A,(HL)` (42_alu8 R282). -/
def execAdd_A_mHL (s : State) : Result := .next (s.alu .add .mHL)

/-- `ADD A,A` (42_alu8 R281). -/
def execAdd_A_A (s : State) : Result := .next (s.alu .add (.reg .a))

/-- `ADC A,B` (42_alu8 R284). -/
def execAdc_A_B (s : State) : Result := .next (s.alu .adc (.reg .b))

/-- `ADC A,C` (42_alu8 R284). -/
def execAdc_A_C (s : State) : Result := .next (s.alu .adc (.reg .c))

/-- `ADC A,D` (42_alu8 R284). -/
def execAdc_A_D (s : State) : Result := .next (s.alu .adc (.reg .d))

/-- `ADC A,E` (42_alu8 R284). -/
def execAdc_A_E (s : State) : Result := .next (s.alu .adc (.reg .e))

/-- `ADC A,H` (42_alu8 R284). -/
def execAdc_A_H (s : State) : Result := .next (s.alu .adc (.reg .h))

/-- `ADC A,L` (42_alu8 R284). -/
def execAdc_A_L (s : State) : Result := .next (s.alu .adc (.reg .l))

/-- `ADC A,(HL)` (42_alu8 R285). -/
def execAdc_A_mHL (s : State) : Result := .next (s.alu .adc .mHL)

/-- `ADC A,A` (42_alu8 R284). -/
def execAdc_A_A (s : State) : Result := .next (s.alu .adc (.reg .a))

/-- `SUB B` (42_alu8 R287). -/
def execSub_B (s : State) : Result := .next (s.alu .sub (.reg .b))

/-- `SUB C` (42_alu8 R287). -/
def execSub_C (s : State) : Result := .next (s.alu .sub (.reg .c))

/-- `SUB D` (42_alu8 R287). -/
def execSub_D (s : State) : Result := .next (s.alu .sub (.reg .d))

/-- `SUB E` (42_alu8 R287). -/
def execSub_E (s : State) : Result := .next (s.alu .sub (.reg .e))

/-- `SUB H` (42_alu8 R287). -/
def execSub_H (s : State) : Result := .next (s.alu .sub (.reg .h))

/-- `SUB L` (42_alu8 R287). -/
def execSub_L (s : State) : Result := .next (s.alu .sub (.reg .l))

/-- `SUB (HL)` (42_alu8 R288). -/
def execSub_mHL (s : State) : Result := .next (s.alu .sub .mHL)

/-- `SUB A` (42_alu8 R287). -/
def execSub_A (s : State) : Result := .next (s.alu .sub (.reg .a))

/-- `SBC A,B` (42_alu8 R290). -/
def execSbc_A_B (s : State) : Result := .next (s.alu .sbc (.reg .b))

/-- `SBC A,C` (42_alu8 R290). -/
def execSbc_A_C (s : State) : Result := .next (s.alu .sbc (.reg .c))

/-- `SBC A,D` (42_alu8 R290). -/
def execSbc_A_D (s : State) : Result := .next (s.alu .sbc (.reg .d))

/-- `SBC A,E` (42_alu8 R290). -/
def execSbc_A_E (s : State) : Result := .next (s.alu .sbc (.reg .e))

/-- `SBC A,H` (42_alu8 R290). -/
def execSbc_A_H (s : State) : Result := .next (s.alu .sbc (.reg .h))

/-- `SBC A,L` (42_alu8 R290). -/
def execSbc_A_L (s : State) : Result := .next (s.alu .sbc (.reg .l))

/-- `SBC A,(HL)` (42_alu8 R291). -/
def execSbc_A_mHL (s : State) : Result := .next (s.alu .sbc .mHL)

/-- `SBC A,A` (42_alu8 R290). -/
def execSbc_A_A (s : State) : Result := .next (s.alu .sbc (.reg .a))

/-- `AND B` (42_alu8 R293). -/
def execAnd_B (s : State) : Result := .next (s.alu .and (.reg .b))

/-- `AND C` (42_alu8 R293). -/
def execAnd_C (s : State) : Result := .next (s.alu .and (.reg .c))

/-- `AND D` (42_alu8 R293). -/
def execAnd_D (s : State) : Result := .next (s.alu .and (.reg .d))

/-- `AND E` (42_alu8 R293). -/
def execAnd_E (s : State) : Result := .next (s.alu .and (.reg .e))

/-- `AND H` (42_alu8 R293). -/
def execAnd_H (s : State) : Result := .next (s.alu .and (.reg .h))

/-- `AND L` (42_alu8 R293). -/
def execAnd_L (s : State) : Result := .next (s.alu .and (.reg .l))

/-- `AND (HL)` (42_alu8 R294). -/
def execAnd_mHL (s : State) : Result := .next (s.alu .and .mHL)

/-- `AND A` (42_alu8 R293). -/
def execAnd_A (s : State) : Result := .next (s.alu .and (.reg .a))

/-- `XOR B` (42_alu8 R296). -/
def execXor_B (s : State) : Result := .next (s.alu .xor (.reg .b))

/-- `XOR C` (42_alu8 R296). -/
def execXor_C (s : State) : Result := .next (s.alu .xor (.reg .c))

/-- `XOR D` (42_alu8 R296). -/
def execXor_D (s : State) : Result := .next (s.alu .xor (.reg .d))

/-- `XOR E` (42_alu8 R296). -/
def execXor_E (s : State) : Result := .next (s.alu .xor (.reg .e))

/-- `XOR H` (42_alu8 R296). -/
def execXor_H (s : State) : Result := .next (s.alu .xor (.reg .h))

/-- `XOR L` (42_alu8 R296). -/
def execXor_L (s : State) : Result := .next (s.alu .xor (.reg .l))

/-- `XOR (HL)` (42_alu8 R297). -/
def execXor_mHL (s : State) : Result := .next (s.alu .xor .mHL)

/-- `XOR A` (42_alu8 R296). -/
def execXor_A (s : State) : Result := .next (s.alu .xor (.reg .a))

/-- `OR B` (42_alu8 R299). -/
def execOr_B (s : State) : Result := .next (s.alu .or (.reg .b))

/-- `OR C` (42_alu8 R299). -/
def execOr_C (s : State) : Result := .next (s.alu .or (.reg .c))

/-- `OR D` (42_alu8 R299). -/
def execOr_D (s : State) : Result := .next (s.alu .or (.reg .d))

/-- `OR E` (42_alu8 R299). -/
def execOr_E (s : State) : Result := .next (s.alu .or (.reg .e))

/-- `OR H` (42_alu8 R299). -/
def execOr_H (s : State) : Result := .next (s.alu .or (.reg .h))

/-- `OR L` (42_alu8 R299). -/
def execOr_L (s : State) : Result := .next (s.alu .or (.reg .l))

/-- `OR (HL)` (42_alu8 R300). -/
def execOr_mHL (s : State) : Result := .next (s.alu .or .mHL)

/-- `OR A` (42_alu8 R299). -/
def execOr_A (s : State) : Result := .next (s.alu .or (.reg .a))

/-- `CP B` (42_alu8 R302). -/
def execCp_B (s : State) : Result := .next (s.alu .cp (.reg .b))

/-- `CP C` (42_alu8 R302). -/
def execCp_C (s : State) : Result := .next (s.alu .cp (.reg .c))

/-- `CP D` (42_alu8 R302). -/
def execCp_D (s : State) : Result := .next (s.alu .cp (.reg .d))

/-- `CP E` (42_alu8 R302). -/
def execCp_E (s : State) : Result := .next (s.alu .cp (.reg .e))

/-- `CP H` (42_alu8 R302). -/
def execCp_H (s : State) : Result := .next (s.alu .cp (.reg .h))

/-- `CP L` (42_alu8 R302). -/
def execCp_L (s : State) : Result := .next (s.alu .cp (.reg .l))

/-- `CP (HL)` (42_alu8 R303). -/
def execCp_mHL (s : State) : Result := .next (s.alu .cp .mHL)

/-- `CP A` (42_alu8 R302). -/
def execCp_A (s : State) : Result := .next (s.alu .cp (.reg .a))

/-- `ADD A,n` (42_alu8 R283). -/
def execAdd_A_n (n : Byte) (s : State) : Result := .next (s.alu .add (.imm n))

/-- `ADC A,n` (42_alu8 R286). -/
def execAdc_A_n (n : Byte) (s : State) : Result := .next (s.alu .adc (.imm n))

/-- `SUB n` (42_alu8 R289). -/
def execSub_n (n : Byte) (s : State) : Result := .next (s.alu .sub (.imm n))

/-- `SBC A,n` (42_alu8 R292). -/
def execSbc_A_n (n : Byte) (s : State) : Result := .next (s.alu .sbc (.imm n))

/-- `AND n` (42_alu8 R295). -/
def execAnd_n (n : Byte) (s : State) : Result := .next (s.alu .and (.imm n))

/-- `XOR n` (42_alu8 R298). -/
def execXor_n (n : Byte) (s : State) : Result := .next (s.alu .xor (.imm n))

/-- `OR n` (42_alu8 R301). -/
def execOr_n (n : Byte) (s : State) : Result := .next (s.alu .or (.imm n))

/-- `CP n` (42_alu8 R304). -/
def execCp_n (n : Byte) (s : State) : Result := .next (s.alu .cp (.imm n))

end Sys2Proof.Machine
end

