-- ==== Sys2Proof/Machine/Bit.lean ====
section
/-!
DEFINITION. The single-bit operations (45_bit R371 to R376).
-/
namespace Sys2Proof.Machine

/-- `BIT b,r` (45_bit R371). -/
def State.bitReg (s : State) (b : Fin 8) (r : Reg8) : State := (s.setF (bitFlags b (s.getReg r) s.cpu.flagC)).charge 8

/-- `BIT b,(HL)` (45_bit R372). -/
def State.bitMem (s : State) (b : Fin 8) : State := (s.setF (bitFlags b (s.busRead s.hl) s.cpu.flagC)).charge 12

/-- `RES b,r` (45_bit R373). -/
def State.resReg (s : State) (b : Fin 8) (dst : Reg8) : State := (s.setReg dst (resetBit b (s.getReg dst))).charge 8

/-- `RES b,(HL)` (45_bit R374). -/
def State.resMem (s : State) (b : Fin 8) : State := (s.busWrite s.hl (resetBit b (s.busRead s.hl))).charge 16

/-- `SET b,r` (45_bit R375). -/
def State.setBitReg (s : State) (b : Fin 8) (dst : Reg8) : State := (s.setReg dst (setBit b (s.getReg dst))).charge 8

/-- `SET b,(HL)` (45_bit R376). -/
def State.setBitMem (s : State) (b : Fin 8) : State := (s.busWrite s.hl (setBit b (s.busRead s.hl))).charge 16

/-- `BIT 0,B` (45_bit R371). -/
def execBit_0_B (s : State) : Result := .next (s.bitReg 0 .b)

/-- `BIT 0,C` (45_bit R371). -/
def execBit_0_C (s : State) : Result := .next (s.bitReg 0 .c)

/-- `BIT 0,D` (45_bit R371). -/
def execBit_0_D (s : State) : Result := .next (s.bitReg 0 .d)

/-- `BIT 0,E` (45_bit R371). -/
def execBit_0_E (s : State) : Result := .next (s.bitReg 0 .e)

/-- `BIT 0,H` (45_bit R371). -/
def execBit_0_H (s : State) : Result := .next (s.bitReg 0 .h)

/-- `BIT 0,L` (45_bit R371). -/
def execBit_0_L (s : State) : Result := .next (s.bitReg 0 .l)

/-- `BIT 0,(HL)` (45_bit R372). -/
def execBit_0_mHL (s : State) : Result := .next (s.bitMem 0)

/-- `BIT 0,A` (45_bit R371). -/
def execBit_0_A (s : State) : Result := .next (s.bitReg 0 .a)

/-- `BIT 1,B` (45_bit R371). -/
def execBit_1_B (s : State) : Result := .next (s.bitReg 1 .b)

/-- `BIT 1,C` (45_bit R371). -/
def execBit_1_C (s : State) : Result := .next (s.bitReg 1 .c)

/-- `BIT 1,D` (45_bit R371). -/
def execBit_1_D (s : State) : Result := .next (s.bitReg 1 .d)

/-- `BIT 1,E` (45_bit R371). -/
def execBit_1_E (s : State) : Result := .next (s.bitReg 1 .e)

/-- `BIT 1,H` (45_bit R371). -/
def execBit_1_H (s : State) : Result := .next (s.bitReg 1 .h)

/-- `BIT 1,L` (45_bit R371). -/
def execBit_1_L (s : State) : Result := .next (s.bitReg 1 .l)

/-- `BIT 1,(HL)` (45_bit R372). -/
def execBit_1_mHL (s : State) : Result := .next (s.bitMem 1)

/-- `BIT 1,A` (45_bit R371). -/
def execBit_1_A (s : State) : Result := .next (s.bitReg 1 .a)

/-- `BIT 2,B` (45_bit R371). -/
def execBit_2_B (s : State) : Result := .next (s.bitReg 2 .b)

/-- `BIT 2,C` (45_bit R371). -/
def execBit_2_C (s : State) : Result := .next (s.bitReg 2 .c)

/-- `BIT 2,D` (45_bit R371). -/
def execBit_2_D (s : State) : Result := .next (s.bitReg 2 .d)

/-- `BIT 2,E` (45_bit R371). -/
def execBit_2_E (s : State) : Result := .next (s.bitReg 2 .e)

/-- `BIT 2,H` (45_bit R371). -/
def execBit_2_H (s : State) : Result := .next (s.bitReg 2 .h)

/-- `BIT 2,L` (45_bit R371). -/
def execBit_2_L (s : State) : Result := .next (s.bitReg 2 .l)

/-- `BIT 2,(HL)` (45_bit R372). -/
def execBit_2_mHL (s : State) : Result := .next (s.bitMem 2)

/-- `BIT 2,A` (45_bit R371). -/
def execBit_2_A (s : State) : Result := .next (s.bitReg 2 .a)

/-- `BIT 3,B` (45_bit R371). -/
def execBit_3_B (s : State) : Result := .next (s.bitReg 3 .b)

/-- `BIT 3,C` (45_bit R371). -/
def execBit_3_C (s : State) : Result := .next (s.bitReg 3 .c)

/-- `BIT 3,D` (45_bit R371). -/
def execBit_3_D (s : State) : Result := .next (s.bitReg 3 .d)

/-- `BIT 3,E` (45_bit R371). -/
def execBit_3_E (s : State) : Result := .next (s.bitReg 3 .e)

/-- `BIT 3,H` (45_bit R371). -/
def execBit_3_H (s : State) : Result := .next (s.bitReg 3 .h)

/-- `BIT 3,L` (45_bit R371). -/
def execBit_3_L (s : State) : Result := .next (s.bitReg 3 .l)

/-- `BIT 3,(HL)` (45_bit R372). -/
def execBit_3_mHL (s : State) : Result := .next (s.bitMem 3)

/-- `BIT 3,A` (45_bit R371). -/
def execBit_3_A (s : State) : Result := .next (s.bitReg 3 .a)

/-- `BIT 4,B` (45_bit R371). -/
def execBit_4_B (s : State) : Result := .next (s.bitReg 4 .b)

/-- `BIT 4,C` (45_bit R371). -/
def execBit_4_C (s : State) : Result := .next (s.bitReg 4 .c)

/-- `BIT 4,D` (45_bit R371). -/
def execBit_4_D (s : State) : Result := .next (s.bitReg 4 .d)

/-- `BIT 4,E` (45_bit R371). -/
def execBit_4_E (s : State) : Result := .next (s.bitReg 4 .e)

/-- `BIT 4,H` (45_bit R371). -/
def execBit_4_H (s : State) : Result := .next (s.bitReg 4 .h)

/-- `BIT 4,L` (45_bit R371). -/
def execBit_4_L (s : State) : Result := .next (s.bitReg 4 .l)

/-- `BIT 4,(HL)` (45_bit R372). -/
def execBit_4_mHL (s : State) : Result := .next (s.bitMem 4)

/-- `BIT 4,A` (45_bit R371). -/
def execBit_4_A (s : State) : Result := .next (s.bitReg 4 .a)

/-- `BIT 5,B` (45_bit R371). -/
def execBit_5_B (s : State) : Result := .next (s.bitReg 5 .b)

/-- `BIT 5,C` (45_bit R371). -/
def execBit_5_C (s : State) : Result := .next (s.bitReg 5 .c)

/-- `BIT 5,D` (45_bit R371). -/
def execBit_5_D (s : State) : Result := .next (s.bitReg 5 .d)

/-- `BIT 5,E` (45_bit R371). -/
def execBit_5_E (s : State) : Result := .next (s.bitReg 5 .e)

/-- `BIT 5,H` (45_bit R371). -/
def execBit_5_H (s : State) : Result := .next (s.bitReg 5 .h)

/-- `BIT 5,L` (45_bit R371). -/
def execBit_5_L (s : State) : Result := .next (s.bitReg 5 .l)

/-- `BIT 5,(HL)` (45_bit R372). -/
def execBit_5_mHL (s : State) : Result := .next (s.bitMem 5)

/-- `BIT 5,A` (45_bit R371). -/
def execBit_5_A (s : State) : Result := .next (s.bitReg 5 .a)

/-- `BIT 6,B` (45_bit R371). -/
def execBit_6_B (s : State) : Result := .next (s.bitReg 6 .b)

/-- `BIT 6,C` (45_bit R371). -/
def execBit_6_C (s : State) : Result := .next (s.bitReg 6 .c)

/-- `BIT 6,D` (45_bit R371). -/
def execBit_6_D (s : State) : Result := .next (s.bitReg 6 .d)

/-- `BIT 6,E` (45_bit R371). -/
def execBit_6_E (s : State) : Result := .next (s.bitReg 6 .e)

/-- `BIT 6,H` (45_bit R371). -/
def execBit_6_H (s : State) : Result := .next (s.bitReg 6 .h)

/-- `BIT 6,L` (45_bit R371). -/
def execBit_6_L (s : State) : Result := .next (s.bitReg 6 .l)

/-- `BIT 6,(HL)` (45_bit R372). -/
def execBit_6_mHL (s : State) : Result := .next (s.bitMem 6)

/-- `BIT 6,A` (45_bit R371). -/
def execBit_6_A (s : State) : Result := .next (s.bitReg 6 .a)

/-- `BIT 7,B` (45_bit R371). -/
def execBit_7_B (s : State) : Result := .next (s.bitReg 7 .b)

/-- `BIT 7,C` (45_bit R371). -/
def execBit_7_C (s : State) : Result := .next (s.bitReg 7 .c)

/-- `BIT 7,D` (45_bit R371). -/
def execBit_7_D (s : State) : Result := .next (s.bitReg 7 .d)

/-- `BIT 7,E` (45_bit R371). -/
def execBit_7_E (s : State) : Result := .next (s.bitReg 7 .e)

/-- `BIT 7,H` (45_bit R371). -/
def execBit_7_H (s : State) : Result := .next (s.bitReg 7 .h)

/-- `BIT 7,L` (45_bit R371). -/
def execBit_7_L (s : State) : Result := .next (s.bitReg 7 .l)

/-- `BIT 7,(HL)` (45_bit R372). -/
def execBit_7_mHL (s : State) : Result := .next (s.bitMem 7)

/-- `BIT 7,A` (45_bit R371). -/
def execBit_7_A (s : State) : Result := .next (s.bitReg 7 .a)

/-- `RES 0,B` (45_bit R373). -/
def execRes_0_B (s : State) : Result := .next (s.resReg 0 .b)

/-- `RES 0,C` (45_bit R373). -/
def execRes_0_C (s : State) : Result := .next (s.resReg 0 .c)

/-- `RES 0,D` (45_bit R373). -/
def execRes_0_D (s : State) : Result := .next (s.resReg 0 .d)

/-- `RES 0,E` (45_bit R373). -/
def execRes_0_E (s : State) : Result := .next (s.resReg 0 .e)

/-- `RES 0,H` (45_bit R373). -/
def execRes_0_H (s : State) : Result := .next (s.resReg 0 .h)

/-- `RES 0,L` (45_bit R373). -/
def execRes_0_L (s : State) : Result := .next (s.resReg 0 .l)

/-- `RES 0,(HL)` (45_bit R374). -/
def execRes_0_mHL (s : State) : Result := .next (s.resMem 0)

/-- `RES 0,A` (45_bit R373). -/
def execRes_0_A (s : State) : Result := .next (s.resReg 0 .a)

/-- `RES 1,B` (45_bit R373). -/
def execRes_1_B (s : State) : Result := .next (s.resReg 1 .b)

/-- `RES 1,C` (45_bit R373). -/
def execRes_1_C (s : State) : Result := .next (s.resReg 1 .c)

/-- `RES 1,D` (45_bit R373). -/
def execRes_1_D (s : State) : Result := .next (s.resReg 1 .d)

/-- `RES 1,E` (45_bit R373). -/
def execRes_1_E (s : State) : Result := .next (s.resReg 1 .e)

/-- `RES 1,H` (45_bit R373). -/
def execRes_1_H (s : State) : Result := .next (s.resReg 1 .h)

/-- `RES 1,L` (45_bit R373). -/
def execRes_1_L (s : State) : Result := .next (s.resReg 1 .l)

/-- `RES 1,(HL)` (45_bit R374). -/
def execRes_1_mHL (s : State) : Result := .next (s.resMem 1)

/-- `RES 1,A` (45_bit R373). -/
def execRes_1_A (s : State) : Result := .next (s.resReg 1 .a)

/-- `RES 2,B` (45_bit R373). -/
def execRes_2_B (s : State) : Result := .next (s.resReg 2 .b)

/-- `RES 2,C` (45_bit R373). -/
def execRes_2_C (s : State) : Result := .next (s.resReg 2 .c)

/-- `RES 2,D` (45_bit R373). -/
def execRes_2_D (s : State) : Result := .next (s.resReg 2 .d)

/-- `RES 2,E` (45_bit R373). -/
def execRes_2_E (s : State) : Result := .next (s.resReg 2 .e)

/-- `RES 2,H` (45_bit R373). -/
def execRes_2_H (s : State) : Result := .next (s.resReg 2 .h)

/-- `RES 2,L` (45_bit R373). -/
def execRes_2_L (s : State) : Result := .next (s.resReg 2 .l)

/-- `RES 2,(HL)` (45_bit R374). -/
def execRes_2_mHL (s : State) : Result := .next (s.resMem 2)

/-- `RES 2,A` (45_bit R373). -/
def execRes_2_A (s : State) : Result := .next (s.resReg 2 .a)

/-- `RES 3,B` (45_bit R373). -/
def execRes_3_B (s : State) : Result := .next (s.resReg 3 .b)

/-- `RES 3,C` (45_bit R373). -/
def execRes_3_C (s : State) : Result := .next (s.resReg 3 .c)

/-- `RES 3,D` (45_bit R373). -/
def execRes_3_D (s : State) : Result := .next (s.resReg 3 .d)

/-- `RES 3,E` (45_bit R373). -/
def execRes_3_E (s : State) : Result := .next (s.resReg 3 .e)

/-- `RES 3,H` (45_bit R373). -/
def execRes_3_H (s : State) : Result := .next (s.resReg 3 .h)

/-- `RES 3,L` (45_bit R373). -/
def execRes_3_L (s : State) : Result := .next (s.resReg 3 .l)

/-- `RES 3,(HL)` (45_bit R374). -/
def execRes_3_mHL (s : State) : Result := .next (s.resMem 3)

/-- `RES 3,A` (45_bit R373). -/
def execRes_3_A (s : State) : Result := .next (s.resReg 3 .a)

/-- `RES 4,B` (45_bit R373). -/
def execRes_4_B (s : State) : Result := .next (s.resReg 4 .b)

/-- `RES 4,C` (45_bit R373). -/
def execRes_4_C (s : State) : Result := .next (s.resReg 4 .c)

/-- `RES 4,D` (45_bit R373). -/
def execRes_4_D (s : State) : Result := .next (s.resReg 4 .d)

/-- `RES 4,E` (45_bit R373). -/
def execRes_4_E (s : State) : Result := .next (s.resReg 4 .e)

/-- `RES 4,H` (45_bit R373). -/
def execRes_4_H (s : State) : Result := .next (s.resReg 4 .h)

/-- `RES 4,L` (45_bit R373). -/
def execRes_4_L (s : State) : Result := .next (s.resReg 4 .l)

/-- `RES 4,(HL)` (45_bit R374). -/
def execRes_4_mHL (s : State) : Result := .next (s.resMem 4)

/-- `RES 4,A` (45_bit R373). -/
def execRes_4_A (s : State) : Result := .next (s.resReg 4 .a)

/-- `RES 5,B` (45_bit R373). -/
def execRes_5_B (s : State) : Result := .next (s.resReg 5 .b)

/-- `RES 5,C` (45_bit R373). -/
def execRes_5_C (s : State) : Result := .next (s.resReg 5 .c)

/-- `RES 5,D` (45_bit R373). -/
def execRes_5_D (s : State) : Result := .next (s.resReg 5 .d)

/-- `RES 5,E` (45_bit R373). -/
def execRes_5_E (s : State) : Result := .next (s.resReg 5 .e)

/-- `RES 5,H` (45_bit R373). -/
def execRes_5_H (s : State) : Result := .next (s.resReg 5 .h)

/-- `RES 5,L` (45_bit R373). -/
def execRes_5_L (s : State) : Result := .next (s.resReg 5 .l)

/-- `RES 5,(HL)` (45_bit R374). -/
def execRes_5_mHL (s : State) : Result := .next (s.resMem 5)

/-- `RES 5,A` (45_bit R373). -/
def execRes_5_A (s : State) : Result := .next (s.resReg 5 .a)

/-- `RES 6,B` (45_bit R373). -/
def execRes_6_B (s : State) : Result := .next (s.resReg 6 .b)

/-- `RES 6,C` (45_bit R373). -/
def execRes_6_C (s : State) : Result := .next (s.resReg 6 .c)

/-- `RES 6,D` (45_bit R373). -/
def execRes_6_D (s : State) : Result := .next (s.resReg 6 .d)

/-- `RES 6,E` (45_bit R373). -/
def execRes_6_E (s : State) : Result := .next (s.resReg 6 .e)

/-- `RES 6,H` (45_bit R373). -/
def execRes_6_H (s : State) : Result := .next (s.resReg 6 .h)

/-- `RES 6,L` (45_bit R373). -/
def execRes_6_L (s : State) : Result := .next (s.resReg 6 .l)

/-- `RES 6,(HL)` (45_bit R374). -/
def execRes_6_mHL (s : State) : Result := .next (s.resMem 6)

/-- `RES 6,A` (45_bit R373). -/
def execRes_6_A (s : State) : Result := .next (s.resReg 6 .a)

/-- `RES 7,B` (45_bit R373). -/
def execRes_7_B (s : State) : Result := .next (s.resReg 7 .b)

/-- `RES 7,C` (45_bit R373). -/
def execRes_7_C (s : State) : Result := .next (s.resReg 7 .c)

/-- `RES 7,D` (45_bit R373). -/
def execRes_7_D (s : State) : Result := .next (s.resReg 7 .d)

/-- `RES 7,E` (45_bit R373). -/
def execRes_7_E (s : State) : Result := .next (s.resReg 7 .e)

/-- `RES 7,H` (45_bit R373). -/
def execRes_7_H (s : State) : Result := .next (s.resReg 7 .h)

/-- `RES 7,L` (45_bit R373). -/
def execRes_7_L (s : State) : Result := .next (s.resReg 7 .l)

/-- `RES 7,(HL)` (45_bit R374). -/
def execRes_7_mHL (s : State) : Result := .next (s.resMem 7)

/-- `RES 7,A` (45_bit R373). -/
def execRes_7_A (s : State) : Result := .next (s.resReg 7 .a)

/-- `SET 0,B` (45_bit R375). -/
def execSet_0_B (s : State) : Result := .next (s.setBitReg 0 .b)

/-- `SET 0,C` (45_bit R375). -/
def execSet_0_C (s : State) : Result := .next (s.setBitReg 0 .c)

/-- `SET 0,D` (45_bit R375). -/
def execSet_0_D (s : State) : Result := .next (s.setBitReg 0 .d)

/-- `SET 0,E` (45_bit R375). -/
def execSet_0_E (s : State) : Result := .next (s.setBitReg 0 .e)

/-- `SET 0,H` (45_bit R375). -/
def execSet_0_H (s : State) : Result := .next (s.setBitReg 0 .h)

/-- `SET 0,L` (45_bit R375). -/
def execSet_0_L (s : State) : Result := .next (s.setBitReg 0 .l)

/-- `SET 0,(HL)` (45_bit R376). -/
def execSet_0_mHL (s : State) : Result := .next (s.setBitMem 0)

/-- `SET 0,A` (45_bit R375). -/
def execSet_0_A (s : State) : Result := .next (s.setBitReg 0 .a)

/-- `SET 1,B` (45_bit R375). -/
def execSet_1_B (s : State) : Result := .next (s.setBitReg 1 .b)

/-- `SET 1,C` (45_bit R375). -/
def execSet_1_C (s : State) : Result := .next (s.setBitReg 1 .c)

/-- `SET 1,D` (45_bit R375). -/
def execSet_1_D (s : State) : Result := .next (s.setBitReg 1 .d)

/-- `SET 1,E` (45_bit R375). -/
def execSet_1_E (s : State) : Result := .next (s.setBitReg 1 .e)

/-- `SET 1,H` (45_bit R375). -/
def execSet_1_H (s : State) : Result := .next (s.setBitReg 1 .h)

/-- `SET 1,L` (45_bit R375). -/
def execSet_1_L (s : State) : Result := .next (s.setBitReg 1 .l)

/-- `SET 1,(HL)` (45_bit R376). -/
def execSet_1_mHL (s : State) : Result := .next (s.setBitMem 1)

/-- `SET 1,A` (45_bit R375). -/
def execSet_1_A (s : State) : Result := .next (s.setBitReg 1 .a)

/-- `SET 2,B` (45_bit R375). -/
def execSet_2_B (s : State) : Result := .next (s.setBitReg 2 .b)

/-- `SET 2,C` (45_bit R375). -/
def execSet_2_C (s : State) : Result := .next (s.setBitReg 2 .c)

/-- `SET 2,D` (45_bit R375). -/
def execSet_2_D (s : State) : Result := .next (s.setBitReg 2 .d)

/-- `SET 2,E` (45_bit R375). -/
def execSet_2_E (s : State) : Result := .next (s.setBitReg 2 .e)

/-- `SET 2,H` (45_bit R375). -/
def execSet_2_H (s : State) : Result := .next (s.setBitReg 2 .h)

/-- `SET 2,L` (45_bit R375). -/
def execSet_2_L (s : State) : Result := .next (s.setBitReg 2 .l)

/-- `SET 2,(HL)` (45_bit R376). -/
def execSet_2_mHL (s : State) : Result := .next (s.setBitMem 2)

/-- `SET 2,A` (45_bit R375). -/
def execSet_2_A (s : State) : Result := .next (s.setBitReg 2 .a)

/-- `SET 3,B` (45_bit R375). -/
def execSet_3_B (s : State) : Result := .next (s.setBitReg 3 .b)

/-- `SET 3,C` (45_bit R375). -/
def execSet_3_C (s : State) : Result := .next (s.setBitReg 3 .c)

/-- `SET 3,D` (45_bit R375). -/
def execSet_3_D (s : State) : Result := .next (s.setBitReg 3 .d)

/-- `SET 3,E` (45_bit R375). -/
def execSet_3_E (s : State) : Result := .next (s.setBitReg 3 .e)

/-- `SET 3,H` (45_bit R375). -/
def execSet_3_H (s : State) : Result := .next (s.setBitReg 3 .h)

/-- `SET 3,L` (45_bit R375). -/
def execSet_3_L (s : State) : Result := .next (s.setBitReg 3 .l)

/-- `SET 3,(HL)` (45_bit R376). -/
def execSet_3_mHL (s : State) : Result := .next (s.setBitMem 3)

/-- `SET 3,A` (45_bit R375). -/
def execSet_3_A (s : State) : Result := .next (s.setBitReg 3 .a)

/-- `SET 4,B` (45_bit R375). -/
def execSet_4_B (s : State) : Result := .next (s.setBitReg 4 .b)

/-- `SET 4,C` (45_bit R375). -/
def execSet_4_C (s : State) : Result := .next (s.setBitReg 4 .c)

/-- `SET 4,D` (45_bit R375). -/
def execSet_4_D (s : State) : Result := .next (s.setBitReg 4 .d)

/-- `SET 4,E` (45_bit R375). -/
def execSet_4_E (s : State) : Result := .next (s.setBitReg 4 .e)

/-- `SET 4,H` (45_bit R375). -/
def execSet_4_H (s : State) : Result := .next (s.setBitReg 4 .h)

/-- `SET 4,L` (45_bit R375). -/
def execSet_4_L (s : State) : Result := .next (s.setBitReg 4 .l)

/-- `SET 4,(HL)` (45_bit R376). -/
def execSet_4_mHL (s : State) : Result := .next (s.setBitMem 4)

/-- `SET 4,A` (45_bit R375). -/
def execSet_4_A (s : State) : Result := .next (s.setBitReg 4 .a)

/-- `SET 5,B` (45_bit R375). -/
def execSet_5_B (s : State) : Result := .next (s.setBitReg 5 .b)

/-- `SET 5,C` (45_bit R375). -/
def execSet_5_C (s : State) : Result := .next (s.setBitReg 5 .c)

/-- `SET 5,D` (45_bit R375). -/
def execSet_5_D (s : State) : Result := .next (s.setBitReg 5 .d)

/-- `SET 5,E` (45_bit R375). -/
def execSet_5_E (s : State) : Result := .next (s.setBitReg 5 .e)

/-- `SET 5,H` (45_bit R375). -/
def execSet_5_H (s : State) : Result := .next (s.setBitReg 5 .h)

/-- `SET 5,L` (45_bit R375). -/
def execSet_5_L (s : State) : Result := .next (s.setBitReg 5 .l)

/-- `SET 5,(HL)` (45_bit R376). -/
def execSet_5_mHL (s : State) : Result := .next (s.setBitMem 5)

/-- `SET 5,A` (45_bit R375). -/
def execSet_5_A (s : State) : Result := .next (s.setBitReg 5 .a)

/-- `SET 6,B` (45_bit R375). -/
def execSet_6_B (s : State) : Result := .next (s.setBitReg 6 .b)

/-- `SET 6,C` (45_bit R375). -/
def execSet_6_C (s : State) : Result := .next (s.setBitReg 6 .c)

/-- `SET 6,D` (45_bit R375). -/
def execSet_6_D (s : State) : Result := .next (s.setBitReg 6 .d)

/-- `SET 6,E` (45_bit R375). -/
def execSet_6_E (s : State) : Result := .next (s.setBitReg 6 .e)

/-- `SET 6,H` (45_bit R375). -/
def execSet_6_H (s : State) : Result := .next (s.setBitReg 6 .h)

/-- `SET 6,L` (45_bit R375). -/
def execSet_6_L (s : State) : Result := .next (s.setBitReg 6 .l)

/-- `SET 6,(HL)` (45_bit R376). -/
def execSet_6_mHL (s : State) : Result := .next (s.setBitMem 6)

/-- `SET 6,A` (45_bit R375). -/
def execSet_6_A (s : State) : Result := .next (s.setBitReg 6 .a)

/-- `SET 7,B` (45_bit R375). -/
def execSet_7_B (s : State) : Result := .next (s.setBitReg 7 .b)

/-- `SET 7,C` (45_bit R375). -/
def execSet_7_C (s : State) : Result := .next (s.setBitReg 7 .c)

/-- `SET 7,D` (45_bit R375). -/
def execSet_7_D (s : State) : Result := .next (s.setBitReg 7 .d)

/-- `SET 7,E` (45_bit R375). -/
def execSet_7_E (s : State) : Result := .next (s.setBitReg 7 .e)

/-- `SET 7,H` (45_bit R375). -/
def execSet_7_H (s : State) : Result := .next (s.setBitReg 7 .h)

/-- `SET 7,L` (45_bit R375). -/
def execSet_7_L (s : State) : Result := .next (s.setBitReg 7 .l)

/-- `SET 7,(HL)` (45_bit R376). -/
def execSet_7_mHL (s : State) : Result := .next (s.setBitMem 7)

/-- `SET 7,A` (45_bit R375). -/
def execSet_7_A (s : State) : Result := .next (s.setBitReg 7 .a)

end Sys2Proof.Machine
end

