-- ==== Sys2Proof/Machine/Control.lean ====
section
/-!
DEFINITION. Jumps, calls, returns, restarts (46_control R381 to R391). When a meaning runs, PC is `PC_next` (R380).
-/
namespace Sys2Proof.Machine

/-- A jump (46_control R381, R383). -/
def State.jump (s : State) (target : Word) (cost : Nat) : State := (s.setPc target).charge cost

/-- `JP cc,nn` (46_control R382). -/
def State.jumpIf (s : State) (cc : Cond) (nn : Word) : State := if s.cond cc then s.jump nn 16 else s.charge 12

/-- `JR e` (46_control R384). -/
def State.jumpRel (s : State) (e : Byte) : State := (s.setPc (s.cpu.pc + sext16 e)).charge 12

/-- `JR cc,e` (46_control R385). -/
def State.jumpRelIf (s : State) (cc : Cond) (e : Byte) : State := if s.cond cc then s.jumpRel e else s.charge 8

/-- A call: push `PC_next`, then jump (46_control R386, R391). -/
def State.call (s : State) (target : Word) (cost : Nat) : State := ((s.push16 s.cpu.pc).setPc target).charge cost

/-- `CALL cc,nn` (46_control R387). -/
def State.callIf (s : State) (cc : Cond) (nn : Word) : State := if s.cond cc then s.call nn 24 else s.charge 12

/-- A return (46_control R388). -/
def State.ret (s : State) (cost : Nat) : State := (s.dropStack.setPc s.stackTop).charge cost

/-- `RET cc` (46_control R389). -/
def State.retIf (s : State) (cc : Cond) : State := if s.cond cc then s.ret 20 else s.charge 8

/-- `RETI` (46_control R390). -/
def State.retiOp (s : State) : State := s.returnFromInterrupt.charge 16

/-- `JR e` (46_control R384). -/
def execJr_e (e : Byte) (s : State) : Result := .next (s.jumpRel e)

/-- `JR NZ,e` (46_control R385). -/
def execJr_NZ_e (e : Byte) (s : State) : Result := .next (s.jumpRelIf .nz e)

/-- `JR Z,e` (46_control R385). -/
def execJr_Z_e (e : Byte) (s : State) : Result := .next (s.jumpRelIf .z e)

/-- `JR NC,e` (46_control R385). -/
def execJr_NC_e (e : Byte) (s : State) : Result := .next (s.jumpRelIf .nc e)

/-- `JR C,e` (46_control R385). -/
def execJr_C_e (e : Byte) (s : State) : Result := .next (s.jumpRelIf .c e)

/-- `RET NZ` (46_control R389). -/
def execRet_NZ (s : State) : Result := .next (s.retIf .nz)

/-- `JP NZ,nn` (46_control R382). -/
def execJp_NZ_nn (nn : Word) (s : State) : Result := .next (s.jumpIf .nz nn)

/-- `JP nn` (46_control R381). -/
def execJp_nn (nn : Word) (s : State) : Result := .next (s.jump nn 16)

/-- `CALL NZ,nn` (46_control R387). -/
def execCall_NZ_nn (nn : Word) (s : State) : Result := .next (s.callIf .nz nn)

/-- `RST 0x00` (46_control R391). -/
def execRst_00 (s : State) : Result := .next (s.call 0x0000 16)

/-- `RET Z` (46_control R389). -/
def execRet_Z (s : State) : Result := .next (s.retIf .z)

/-- `RET` (46_control R388). -/
def execRet (s : State) : Result := .next (s.ret 16)

/-- `JP Z,nn` (46_control R382). -/
def execJp_Z_nn (nn : Word) (s : State) : Result := .next (s.jumpIf .z nn)

/-- `CALL Z,nn` (46_control R387). -/
def execCall_Z_nn (nn : Word) (s : State) : Result := .next (s.callIf .z nn)

/-- `CALL nn` (46_control R386). -/
def execCall_nn (nn : Word) (s : State) : Result := .next (s.call nn 24)

/-- `RST 0x08` (46_control R391). -/
def execRst_08 (s : State) : Result := .next (s.call 0x0008 16)

/-- `RET NC` (46_control R389). -/
def execRet_NC (s : State) : Result := .next (s.retIf .nc)

/-- `JP NC,nn` (46_control R382). -/
def execJp_NC_nn (nn : Word) (s : State) : Result := .next (s.jumpIf .nc nn)

/-- `CALL NC,nn` (46_control R387). -/
def execCall_NC_nn (nn : Word) (s : State) : Result := .next (s.callIf .nc nn)

/-- `RST 0x10` (46_control R391). -/
def execRst_10 (s : State) : Result := .next (s.call 0x0010 16)

/-- `RET C` (46_control R389). -/
def execRet_C (s : State) : Result := .next (s.retIf .c)

/-- `RETI` (46_control R390). -/
def execReti (s : State) : Result := .next (s.retiOp)

/-- `JP C,nn` (46_control R382). -/
def execJp_C_nn (nn : Word) (s : State) : Result := .next (s.jumpIf .c nn)

/-- `CALL C,nn` (46_control R387). -/
def execCall_C_nn (nn : Word) (s : State) : Result := .next (s.callIf .c nn)

/-- `RST 0x18` (46_control R391). -/
def execRst_18 (s : State) : Result := .next (s.call 0x0018 16)

/-- `RST 0x20` (46_control R391). -/
def execRst_20 (s : State) : Result := .next (s.call 0x0020 16)

/-- `JP HL` (46_control R383). -/
def execJp_HL (s : State) : Result := .next (s.jump s.hl 4)

/-- `RST 0x28` (46_control R391). -/
def execRst_28 (s : State) : Result := .next (s.call 0x0028 16)

/-- `RST 0x30` (46_control R391). -/
def execRst_30 (s : State) : Result := .next (s.call 0x0030 16)

/-- `RST 0x38` (46_control R391). -/
def execRst_38 (s : State) : Result := .next (s.call 0x0038 16)

end Sys2Proof.Machine
end

