-- ==== Sys2Proof/Machine/Load16.lean ====
section
/-!
DEFINITION. The 16-bit loads and the stack (41_load16_stack R261 to R267).
-/
namespace Sys2Proof.Machine

/-- `LD rr,nn` (41_load16_stack R261). -/
def State.ldPair (s : State) (p : Pair) (nn : Word) : State := (s.setPair p nn).charge 12

/-- `LD (nn),SP` (41_load16_stack R262). -/
def State.ldMemSp (s : State) (nn : Word) : State := (s.busWrite16 nn s.cpu.sp).charge 20

/-- `LD SP,HL` (41_load16_stack R263). -/
def State.ldSpHl (s : State) : State := (s.setPair .sp s.hl).charge 8

/-- `LD HL,SP+e` (41_load16_stack R264). -/
def State.ldHlSp (s : State) (e : Byte) : State :=
  ((s.setPair .hl (addSp16 s.cpu.sp e).value).setF (addSp16 s.cpu.sp e).f).charge 12

/-- `PUSH qq` (41_load16_stack R265). -/
def State.pushPair (s : State) (q : StackPair) : State := (s.push16 (s.getStackPair q)).charge 16

/-- `POP qq` (41_load16_stack R266, R267). -/
def State.popPair (s : State) (q : StackPair) : State := (s.dropStack.setStackPair q s.stackTop).charge 12

/-- `LD BC,nn` (41_load16_stack R261). -/
def execLd_BC_nn (nn : Word) (s : State) : Result := .next (s.ldPair .bc nn)

/-- `LD (nn),SP` (41_load16_stack R262). -/
def execLd_mnn_SP (nn : Word) (s : State) : Result := .next (s.ldMemSp nn)

/-- `LD DE,nn` (41_load16_stack R261). -/
def execLd_DE_nn (nn : Word) (s : State) : Result := .next (s.ldPair .de nn)

/-- `LD HL,nn` (41_load16_stack R261). -/
def execLd_HL_nn (nn : Word) (s : State) : Result := .next (s.ldPair .hl nn)

/-- `LD SP,nn` (41_load16_stack R261). -/
def execLd_SP_nn (nn : Word) (s : State) : Result := .next (s.ldPair .sp nn)

/-- `POP BC` (41_load16_stack R266). -/
def execPop_BC (s : State) : Result := .next (s.popPair .bc)

/-- `PUSH BC` (41_load16_stack R265). -/
def execPush_BC (s : State) : Result := .next (s.pushPair .bc)

/-- `POP DE` (41_load16_stack R266). -/
def execPop_DE (s : State) : Result := .next (s.popPair .de)

/-- `PUSH DE` (41_load16_stack R265). -/
def execPush_DE (s : State) : Result := .next (s.pushPair .de)

/-- `POP HL` (41_load16_stack R266). -/
def execPop_HL (s : State) : Result := .next (s.popPair .hl)

/-- `PUSH HL` (41_load16_stack R265). -/
def execPush_HL (s : State) : Result := .next (s.pushPair .hl)

/-- `POP AF` (41_load16_stack R267). -/
def execPop_AF (s : State) : Result := .next (s.popPair .af)

/-- `PUSH AF` (41_load16_stack R265). -/
def execPush_AF (s : State) : Result := .next (s.pushPair .af)

/-- `LD HL,SP+e` (41_load16_stack R264). -/
def execLd_HL_SPe (e : Byte) (s : State) : Result := .next (s.ldHlSp e)

/-- `LD SP,HL` (41_load16_stack R263). -/
def execLd_SP_HL (s : State) : Result := .next (s.ldSpHl)

end Sys2Proof.Machine
end

