-- ==== Sys2Proof/Machine/Load8.lean ====
section
/-!
DEFINITION. The 8-bit loads (40_load8 R221 to R239).
-/
namespace Sys2Proof.Machine

/-- A load of a register from a register or an immediate (40_load8 R221, R222). -/
def State.ldReg (s : State) (dst : Reg8) (v : Byte) (cost : Nat) : State := (s.setReg dst v).charge cost

/-- A load of a register from memory; the address is formed before the register is written (40_load8 R223 to R238). -/
def State.loadMem (s : State) (dst : Reg8) (m : MemOperand) (cost : Nat) : State :=
  ((s.setReg dst (s.busRead (s.memAddr m))).memPost m).charge cost

/-- A store of a byte to memory (40_load8 R224 to R239). -/
def State.storeMem (s : State) (m : MemOperand) (v : Byte) (cost : Nat) : State :=
  ((s.busWrite (s.memAddr m) v).memPost m).charge cost

/-- `LD (BC),A` (40_load8 R228). -/
def execLd_mBC_A (s : State) : Result := .next (s.storeMem .bc (s.getReg .a) 8)

/-- `LD B,n` (40_load8 R222). -/
def execLd_B_n (n : Byte) (s : State) : Result := .next (s.ldReg .b n 8)

/-- `LD A,(BC)` (40_load8 R226). -/
def execLd_A_mBC (s : State) : Result := .next (s.loadMem .a .bc 8)

/-- `LD C,n` (40_load8 R222). -/
def execLd_C_n (n : Byte) (s : State) : Result := .next (s.ldReg .c n 8)

/-- `LD (DE),A` (40_load8 R229). -/
def execLd_mDE_A (s : State) : Result := .next (s.storeMem .de (s.getReg .a) 8)

/-- `LD D,n` (40_load8 R222). -/
def execLd_D_n (n : Byte) (s : State) : Result := .next (s.ldReg .d n 8)

/-- `LD A,(DE)` (40_load8 R227). -/
def execLd_A_mDE (s : State) : Result := .next (s.loadMem .a .de 8)

/-- `LD E,n` (40_load8 R222). -/
def execLd_E_n (n : Byte) (s : State) : Result := .next (s.ldReg .e n 8)

/-- `LD (HL+),A` (40_load8 R239). -/
def execLd_mHLI_A (s : State) : Result := .next (s.storeMem .hlInc (s.getReg .a) 8)

/-- `LD H,n` (40_load8 R222). -/
def execLd_H_n (n : Byte) (s : State) : Result := .next (s.ldReg .h n 8)

/-- `LD A,(HL+)` (40_load8 R238). -/
def execLd_A_mHLI (s : State) : Result := .next (s.loadMem .a .hlInc 8)

/-- `LD L,n` (40_load8 R222). -/
def execLd_L_n (n : Byte) (s : State) : Result := .next (s.ldReg .l n 8)

/-- `LD (HL-),A` (40_load8 R237). -/
def execLd_mHLD_A (s : State) : Result := .next (s.storeMem .hlDec (s.getReg .a) 8)

/-- `LD (HL),n` (40_load8 R225). -/
def execLd_mHL_n (n : Byte) (s : State) : Result := .next (s.storeMem .hl n 12)

/-- `LD A,(HL-)` (40_load8 R236). -/
def execLd_A_mHLD (s : State) : Result := .next (s.loadMem .a .hlDec 8)

/-- `LD A,n` (40_load8 R222). -/
def execLd_A_n (n : Byte) (s : State) : Result := .next (s.ldReg .a n 8)

/-- `LD B,B` (40_load8 R221). -/
def execLd_B_B (s : State) : Result := .next (s.ldReg .b (s.getReg .b) 4)

/-- `LD B,C` (40_load8 R221). -/
def execLd_B_C (s : State) : Result := .next (s.ldReg .b (s.getReg .c) 4)

/-- `LD B,D` (40_load8 R221). -/
def execLd_B_D (s : State) : Result := .next (s.ldReg .b (s.getReg .d) 4)

/-- `LD B,E` (40_load8 R221). -/
def execLd_B_E (s : State) : Result := .next (s.ldReg .b (s.getReg .e) 4)

/-- `LD B,H` (40_load8 R221). -/
def execLd_B_H (s : State) : Result := .next (s.ldReg .b (s.getReg .h) 4)

/-- `LD B,L` (40_load8 R221). -/
def execLd_B_L (s : State) : Result := .next (s.ldReg .b (s.getReg .l) 4)

/-- `LD B,(HL)` (40_load8 R223). -/
def execLd_B_mHL (s : State) : Result := .next (s.loadMem .b .hl 8)

/-- `LD B,A` (40_load8 R221). -/
def execLd_B_A (s : State) : Result := .next (s.ldReg .b (s.getReg .a) 4)

/-- `LD C,B` (40_load8 R221). -/
def execLd_C_B (s : State) : Result := .next (s.ldReg .c (s.getReg .b) 4)

/-- `LD C,C` (40_load8 R221). -/
def execLd_C_C (s : State) : Result := .next (s.ldReg .c (s.getReg .c) 4)

/-- `LD C,D` (40_load8 R221). -/
def execLd_C_D (s : State) : Result := .next (s.ldReg .c (s.getReg .d) 4)

/-- `LD C,E` (40_load8 R221). -/
def execLd_C_E (s : State) : Result := .next (s.ldReg .c (s.getReg .e) 4)

/-- `LD C,H` (40_load8 R221). -/
def execLd_C_H (s : State) : Result := .next (s.ldReg .c (s.getReg .h) 4)

/-- `LD C,L` (40_load8 R221). -/
def execLd_C_L (s : State) : Result := .next (s.ldReg .c (s.getReg .l) 4)

/-- `LD C,(HL)` (40_load8 R223). -/
def execLd_C_mHL (s : State) : Result := .next (s.loadMem .c .hl 8)

/-- `LD C,A` (40_load8 R221). -/
def execLd_C_A (s : State) : Result := .next (s.ldReg .c (s.getReg .a) 4)

/-- `LD D,B` (40_load8 R221). -/
def execLd_D_B (s : State) : Result := .next (s.ldReg .d (s.getReg .b) 4)

/-- `LD D,C` (40_load8 R221). -/
def execLd_D_C (s : State) : Result := .next (s.ldReg .d (s.getReg .c) 4)

/-- `LD D,D` (40_load8 R221). -/
def execLd_D_D (s : State) : Result := .next (s.ldReg .d (s.getReg .d) 4)

/-- `LD D,E` (40_load8 R221). -/
def execLd_D_E (s : State) : Result := .next (s.ldReg .d (s.getReg .e) 4)

/-- `LD D,H` (40_load8 R221). -/
def execLd_D_H (s : State) : Result := .next (s.ldReg .d (s.getReg .h) 4)

/-- `LD D,L` (40_load8 R221). -/
def execLd_D_L (s : State) : Result := .next (s.ldReg .d (s.getReg .l) 4)

/-- `LD D,(HL)` (40_load8 R223). -/
def execLd_D_mHL (s : State) : Result := .next (s.loadMem .d .hl 8)

/-- `LD D,A` (40_load8 R221). -/
def execLd_D_A (s : State) : Result := .next (s.ldReg .d (s.getReg .a) 4)

/-- `LD E,B` (40_load8 R221). -/
def execLd_E_B (s : State) : Result := .next (s.ldReg .e (s.getReg .b) 4)

/-- `LD E,C` (40_load8 R221). -/
def execLd_E_C (s : State) : Result := .next (s.ldReg .e (s.getReg .c) 4)

/-- `LD E,D` (40_load8 R221). -/
def execLd_E_D (s : State) : Result := .next (s.ldReg .e (s.getReg .d) 4)

/-- `LD E,E` (40_load8 R221). -/
def execLd_E_E (s : State) : Result := .next (s.ldReg .e (s.getReg .e) 4)

/-- `LD E,H` (40_load8 R221). -/
def execLd_E_H (s : State) : Result := .next (s.ldReg .e (s.getReg .h) 4)

/-- `LD E,L` (40_load8 R221). -/
def execLd_E_L (s : State) : Result := .next (s.ldReg .e (s.getReg .l) 4)

/-- `LD E,(HL)` (40_load8 R223). -/
def execLd_E_mHL (s : State) : Result := .next (s.loadMem .e .hl 8)

/-- `LD E,A` (40_load8 R221). -/
def execLd_E_A (s : State) : Result := .next (s.ldReg .e (s.getReg .a) 4)

/-- `LD H,B` (40_load8 R221). -/
def execLd_H_B (s : State) : Result := .next (s.ldReg .h (s.getReg .b) 4)

/-- `LD H,C` (40_load8 R221). -/
def execLd_H_C (s : State) : Result := .next (s.ldReg .h (s.getReg .c) 4)

/-- `LD H,D` (40_load8 R221). -/
def execLd_H_D (s : State) : Result := .next (s.ldReg .h (s.getReg .d) 4)

/-- `LD H,E` (40_load8 R221). -/
def execLd_H_E (s : State) : Result := .next (s.ldReg .h (s.getReg .e) 4)

/-- `LD H,H` (40_load8 R221). -/
def execLd_H_H (s : State) : Result := .next (s.ldReg .h (s.getReg .h) 4)

/-- `LD H,L` (40_load8 R221). -/
def execLd_H_L (s : State) : Result := .next (s.ldReg .h (s.getReg .l) 4)

/-- `LD H,(HL)` (40_load8 R223). -/
def execLd_H_mHL (s : State) : Result := .next (s.loadMem .h .hl 8)

/-- `LD H,A` (40_load8 R221). -/
def execLd_H_A (s : State) : Result := .next (s.ldReg .h (s.getReg .a) 4)

/-- `LD L,B` (40_load8 R221). -/
def execLd_L_B (s : State) : Result := .next (s.ldReg .l (s.getReg .b) 4)

/-- `LD L,C` (40_load8 R221). -/
def execLd_L_C (s : State) : Result := .next (s.ldReg .l (s.getReg .c) 4)

/-- `LD L,D` (40_load8 R221). -/
def execLd_L_D (s : State) : Result := .next (s.ldReg .l (s.getReg .d) 4)

/-- `LD L,E` (40_load8 R221). -/
def execLd_L_E (s : State) : Result := .next (s.ldReg .l (s.getReg .e) 4)

/-- `LD L,H` (40_load8 R221). -/
def execLd_L_H (s : State) : Result := .next (s.ldReg .l (s.getReg .h) 4)

/-- `LD L,L` (40_load8 R221). -/
def execLd_L_L (s : State) : Result := .next (s.ldReg .l (s.getReg .l) 4)

/-- `LD L,(HL)` (40_load8 R223). -/
def execLd_L_mHL (s : State) : Result := .next (s.loadMem .l .hl 8)

/-- `LD L,A` (40_load8 R221). -/
def execLd_L_A (s : State) : Result := .next (s.ldReg .l (s.getReg .a) 4)

/-- `LD (HL),B` (40_load8 R224). -/
def execLd_mHL_B (s : State) : Result := .next (s.storeMem .hl (s.getReg .b) 8)

/-- `LD (HL),C` (40_load8 R224). -/
def execLd_mHL_C (s : State) : Result := .next (s.storeMem .hl (s.getReg .c) 8)

/-- `LD (HL),D` (40_load8 R224). -/
def execLd_mHL_D (s : State) : Result := .next (s.storeMem .hl (s.getReg .d) 8)

/-- `LD (HL),E` (40_load8 R224). -/
def execLd_mHL_E (s : State) : Result := .next (s.storeMem .hl (s.getReg .e) 8)

/-- `LD (HL),H` (40_load8 R224). -/
def execLd_mHL_H (s : State) : Result := .next (s.storeMem .hl (s.getReg .h) 8)

/-- `LD (HL),L` (40_load8 R224). -/
def execLd_mHL_L (s : State) : Result := .next (s.storeMem .hl (s.getReg .l) 8)

/-- `LD (HL),A` (40_load8 R224). -/
def execLd_mHL_A (s : State) : Result := .next (s.storeMem .hl (s.getReg .a) 8)

/-- `LD A,B` (40_load8 R221). -/
def execLd_A_B (s : State) : Result := .next (s.ldReg .a (s.getReg .b) 4)

/-- `LD A,C` (40_load8 R221). -/
def execLd_A_C (s : State) : Result := .next (s.ldReg .a (s.getReg .c) 4)

/-- `LD A,D` (40_load8 R221). -/
def execLd_A_D (s : State) : Result := .next (s.ldReg .a (s.getReg .d) 4)

/-- `LD A,E` (40_load8 R221). -/
def execLd_A_E (s : State) : Result := .next (s.ldReg .a (s.getReg .e) 4)

/-- `LD A,H` (40_load8 R221). -/
def execLd_A_H (s : State) : Result := .next (s.ldReg .a (s.getReg .h) 4)

/-- `LD A,L` (40_load8 R221). -/
def execLd_A_L (s : State) : Result := .next (s.ldReg .a (s.getReg .l) 4)

/-- `LD A,(HL)` (40_load8 R223). -/
def execLd_A_mHL (s : State) : Result := .next (s.loadMem .a .hl 8)

/-- `LD A,A` (40_load8 R221). -/
def execLd_A_A (s : State) : Result := .next (s.ldReg .a (s.getReg .a) 4)

/-- `LDH (n),A` (40_load8 R235). -/
def execLdh_mn_A (n : Byte) (s : State) : Result := .next (s.storeMem (.highN n) (s.getReg .a) 12)

/-- `LDH (C),A` (40_load8 R233). -/
def execLdh_mC_A (s : State) : Result := .next (s.storeMem .highC (s.getReg .a) 8)

/-- `LD (nn),A` (40_load8 R231). -/
def execLd_mnn_A (nn : Word) (s : State) : Result := .next (s.storeMem (.abs nn) (s.getReg .a) 16)

/-- `LDH A,(n)` (40_load8 R234). -/
def execLdh_A_mn (n : Byte) (s : State) : Result := .next (s.loadMem .a (.highN n) 12)

/-- `LDH A,(C)` (40_load8 R232). -/
def execLdh_A_mC (s : State) : Result := .next (s.loadMem .a .highC 8)

/-- `LD A,(nn)` (40_load8 R230). -/
def execLd_A_mnn (nn : Word) (s : State) : Result := .next (s.loadMem .a (.abs nn) 16)

end Sys2Proof.Machine
end

