-- ==== Sys2Proof/Decode.lean ====
section
/-!
DEFINITION. The decoder and the encoder (30_encoding). The decoder follows the opcode's fields x, y, z, p, q (R181) through the
families of the opcode maps (R198, R199). The encoder is written from the opcode values of spec/opcode_table.json, row by row,
and shares nothing with the decoder, so that their agreement says something.
-/
namespace Sys2Proof

/-- One of eight things by a 3-bit code. -/
def pick8 {α : Type} (k : Fin 8) (x0 x1 x2 x3 x4 x5 x6 x7 : α) : α :=
  match k with
  | 0 => x0
  | 1 => x1
  | 2 => x2
  | 3 => x3
  | 4 => x4
  | 5 => x5
  | 6 => x6
  | 7 => x7

/-- One of four things by a 2-bit code. -/
def pick4 {α : Type} (k : Fin 4) (x0 x1 x2 x3 : α) : α :=
  match k with
  | 0 => x0
  | 1 => x1
  | 2 => x2
  | 3 => x3

/-- One of seven things by a register, in the order B, C, D, E, H, L, A. -/
def Reg8.pick {α : Type} (r : Reg8) (xb xc xd xe xh xl xa : α) : α :=
  match r with
  | .b => xb
  | .c => xc
  | .d => xd
  | .e => xe
  | .h => xh
  | .l => xl
  | .a => xa

/-- One of four things by a pair, in the order BC, DE, HL, SP. -/
def Pair.pick {α : Type} (p : Pair) (x0 x1 x2 x3 : α) : α :=
  match p with
  | .bc => x0
  | .de => x1
  | .hl => x2
  | .sp => x3

/-- One of four things by a stack pair, in the order BC, DE, HL, AF. -/
def StackPair.pick {α : Type} (p : StackPair) (x0 x1 x2 x3 : α) : α :=
  match p with
  | .bc => x0
  | .de => x1
  | .hl => x2
  | .af => x3

/-- One of four things by a condition, in the order NZ, Z, NC, C. -/
def Cond.pick {α : Type} (cc : Cond) (x0 x1 x2 x3 : α) : α :=
  match cc with
  | .nz => x0
  | .z => x1
  | .nc => x2
  | .c => x3

/-- One of eight things by an ALU operation, in the order of R186. -/
def AluOp.pick {α : Type} (o : AluOp) (x0 x1 x2 x3 x4 x5 x6 x7 : α) : α :=
  match o with
  | .add => x0
  | .adc => x1
  | .sub => x2
  | .sbc => x3
  | .and => x4
  | .xor => x5
  | .or => x6
  | .cp => x7

/-- One of eight things by a rotate or shift, in the order of R187. -/
def ShiftOp.pick {α : Type} (o : ShiftOp) (x0 x1 x2 x3 x4 x5 x6 x7 : α) : α :=
  match o with
  | .rlc => x0
  | .rrc => x1
  | .rl => x2
  | .rr => x3
  | .sla => x4
  | .sra => x5
  | .swap => x6
  | .srl => x7

/-! The families: an instruction by its operands. -/

/-- `LD r,r'` (40_load8 R221). -/
def Instr.ldRegReg (dst r : Reg8) : Instr :=
  dst.pick
    (r.pick .ld_B_B .ld_B_C .ld_B_D .ld_B_E .ld_B_H .ld_B_L .ld_B_A)
    (r.pick .ld_C_B .ld_C_C .ld_C_D .ld_C_E .ld_C_H .ld_C_L .ld_C_A)
    (r.pick .ld_D_B .ld_D_C .ld_D_D .ld_D_E .ld_D_H .ld_D_L .ld_D_A)
    (r.pick .ld_E_B .ld_E_C .ld_E_D .ld_E_E .ld_E_H .ld_E_L .ld_E_A)
    (r.pick .ld_H_B .ld_H_C .ld_H_D .ld_H_E .ld_H_H .ld_H_L .ld_H_A)
    (r.pick .ld_L_B .ld_L_C .ld_L_D .ld_L_E .ld_L_H .ld_L_L .ld_L_A)
    (r.pick .ld_A_B .ld_A_C .ld_A_D .ld_A_E .ld_A_H .ld_A_L .ld_A_A)

/-- `LD r,n` (40_load8 R222). -/
def Instr.ldRegN (dst : Reg8) (n : Byte) : Instr :=
  dst.pick (.ld_B_n n) (.ld_C_n n) (.ld_D_n n) (.ld_E_n n) (.ld_H_n n) (.ld_L_n n) (.ld_A_n n)

/-- `LD r,(HL)` (40_load8 R223). -/
def Instr.ldRegMem (dst : Reg8) : Instr :=
  dst.pick .ld_B_mHL .ld_C_mHL .ld_D_mHL .ld_E_mHL .ld_H_mHL .ld_L_mHL .ld_A_mHL

/-- `LD (HL),r` (40_load8 R224). -/
def Instr.ldMemReg (r : Reg8) : Instr :=
  r.pick .ld_mHL_B .ld_mHL_C .ld_mHL_D .ld_mHL_E .ld_mHL_H .ld_mHL_L .ld_mHL_A

/-- `INC r` (42_alu8 R305). -/
def Instr.incReg (dst : Reg8) : Instr :=
  dst.pick .inc_B .inc_C .inc_D .inc_E .inc_H .inc_L .inc_A

/-- `DEC r` (42_alu8 R307). -/
def Instr.decReg (dst : Reg8) : Instr :=
  dst.pick .dec_B .dec_C .dec_D .dec_E .dec_H .dec_L .dec_A

/-- The ALU operations on a register (42_alu8 R281 to R302). -/
def Instr.aluReg (o : AluOp) (r : Reg8) : Instr :=
  o.pick
    (r.pick .add_A_B .add_A_C .add_A_D .add_A_E .add_A_H .add_A_L .add_A_A)
    (r.pick .adc_A_B .adc_A_C .adc_A_D .adc_A_E .adc_A_H .adc_A_L .adc_A_A)
    (r.pick .sub_B .sub_C .sub_D .sub_E .sub_H .sub_L .sub_A)
    (r.pick .sbc_A_B .sbc_A_C .sbc_A_D .sbc_A_E .sbc_A_H .sbc_A_L .sbc_A_A)
    (r.pick .and_B .and_C .and_D .and_E .and_H .and_L .and_A)
    (r.pick .xor_B .xor_C .xor_D .xor_E .xor_H .xor_L .xor_A)
    (r.pick .or_B .or_C .or_D .or_E .or_H .or_L .or_A)
    (r.pick .cp_B .cp_C .cp_D .cp_E .cp_H .cp_L .cp_A)

/-- The ALU operations on `(HL)` (42_alu8 R282 to R303). -/
def Instr.aluMem (o : AluOp) : Instr :=
  o.pick .add_A_mHL .adc_A_mHL .sub_mHL .sbc_A_mHL .and_mHL .xor_mHL .or_mHL .cp_mHL

/-- The ALU operations on an immediate (42_alu8 R283 to R304). -/
def Instr.aluN (o : AluOp) (n : Byte) : Instr :=
  o.pick (.add_A_n n) (.adc_A_n n) (.sub_n n) (.sbc_A_n n) (.and_n n) (.xor_n n) (.or_n n) (.cp_n n)

/-- `LD rr,nn` (41_load16_stack R261). -/
def Instr.ldPairNn (p : Pair) (nn : Word) : Instr :=
  p.pick (.ld_BC_nn nn) (.ld_DE_nn nn) (.ld_HL_nn nn) (.ld_SP_nn nn)

/-- `ADD HL,rr` (43_alu16 R331). -/
def Instr.addHLPair (p : Pair) : Instr :=
  p.pick .add_HL_BC .add_HL_DE .add_HL_HL .add_HL_SP

/-- `INC rr` (43_alu16 R332). -/
def Instr.incPair (p : Pair) : Instr :=
  p.pick .inc_BC .inc_DE .inc_HL .inc_SP

/-- `DEC rr` (43_alu16 R333). -/
def Instr.decPair (p : Pair) : Instr :=
  p.pick .dec_BC .dec_DE .dec_HL .dec_SP

/-- `PUSH qq` (41_load16_stack R265). -/
def Instr.push (q : StackPair) : Instr :=
  q.pick .push_BC .push_DE .push_HL .push_AF

/-- `POP qq` (41_load16_stack R266, R267). -/
def Instr.pop (q : StackPair) : Instr :=
  q.pick .pop_BC .pop_DE .pop_HL .pop_AF

/-- `JR cc,e` (46_control R385). -/
def Instr.jrCond (cc : Cond) (e : Byte) : Instr :=
  cc.pick (.jr_NZ_e e) (.jr_Z_e e) (.jr_NC_e e) (.jr_C_e e)

/-- `JP cc,nn` (46_control R382). -/
def Instr.jpCond (cc : Cond) (nn : Word) : Instr :=
  cc.pick (.jp_NZ_nn nn) (.jp_Z_nn nn) (.jp_NC_nn nn) (.jp_C_nn nn)

/-- `CALL cc,nn` (46_control R387). -/
def Instr.callCond (cc : Cond) (nn : Word) : Instr :=
  cc.pick (.call_NZ_nn nn) (.call_Z_nn nn) (.call_NC_nn nn) (.call_C_nn nn)

/-- `RET cc` (46_control R389). -/
def Instr.retCond (cc : Cond) : Instr :=
  cc.pick .ret_NZ .ret_Z .ret_NC .ret_C

/-- `RST t` with t = 8k (46_control R391). -/
def Instr.rst (k : Fin 8) : Instr :=
  pick8 k .rst_00 .rst_08 .rst_10 .rst_18 .rst_20 .rst_28 .rst_30 .rst_38

/-- The CB rotates and shifts on a register (44_rotate_shift R345 to R359). -/
def Instr.shiftReg (o : ShiftOp) (r : Reg8) : Instr :=
  o.pick
    (r.pick .rlc_B .rlc_C .rlc_D .rlc_E .rlc_H .rlc_L .rlc_A)
    (r.pick .rrc_B .rrc_C .rrc_D .rrc_E .rrc_H .rrc_L .rrc_A)
    (r.pick .rl_B .rl_C .rl_D .rl_E .rl_H .rl_L .rl_A)
    (r.pick .rr_B .rr_C .rr_D .rr_E .rr_H .rr_L .rr_A)
    (r.pick .sla_B .sla_C .sla_D .sla_E .sla_H .sla_L .sla_A)
    (r.pick .sra_B .sra_C .sra_D .sra_E .sra_H .sra_L .sra_A)
    (r.pick .swap_B .swap_C .swap_D .swap_E .swap_H .swap_L .swap_A)
    (r.pick .srl_B .srl_C .srl_D .srl_E .srl_H .srl_L .srl_A)

/-- The CB rotates and shifts on `(HL)` (44_rotate_shift R346 to R360). -/
def Instr.shiftMem (o : ShiftOp) : Instr :=
  o.pick .rlc_mHL .rrc_mHL .rl_mHL .rr_mHL .sla_mHL .sra_mHL .swap_mHL .srl_mHL

/-- `BIT b,r` (45_bit R371). -/
def Instr.bitReg (b : Fin 8) (r : Reg8) : Instr :=
  pick8 b
    (r.pick .bit_0_B .bit_0_C .bit_0_D .bit_0_E .bit_0_H .bit_0_L .bit_0_A)
    (r.pick .bit_1_B .bit_1_C .bit_1_D .bit_1_E .bit_1_H .bit_1_L .bit_1_A)
    (r.pick .bit_2_B .bit_2_C .bit_2_D .bit_2_E .bit_2_H .bit_2_L .bit_2_A)
    (r.pick .bit_3_B .bit_3_C .bit_3_D .bit_3_E .bit_3_H .bit_3_L .bit_3_A)
    (r.pick .bit_4_B .bit_4_C .bit_4_D .bit_4_E .bit_4_H .bit_4_L .bit_4_A)
    (r.pick .bit_5_B .bit_5_C .bit_5_D .bit_5_E .bit_5_H .bit_5_L .bit_5_A)
    (r.pick .bit_6_B .bit_6_C .bit_6_D .bit_6_E .bit_6_H .bit_6_L .bit_6_A)
    (r.pick .bit_7_B .bit_7_C .bit_7_D .bit_7_E .bit_7_H .bit_7_L .bit_7_A)

/-- `BIT b,(HL)` (45_bit R372). -/
def Instr.bitMem (b : Fin 8) : Instr :=
  pick8 b .bit_0_mHL .bit_1_mHL .bit_2_mHL .bit_3_mHL .bit_4_mHL .bit_5_mHL .bit_6_mHL .bit_7_mHL

/-- `RES b,r` (45_bit R373). -/
def Instr.resReg (b : Fin 8) (r : Reg8) : Instr :=
  pick8 b
    (r.pick .res_0_B .res_0_C .res_0_D .res_0_E .res_0_H .res_0_L .res_0_A)
    (r.pick .res_1_B .res_1_C .res_1_D .res_1_E .res_1_H .res_1_L .res_1_A)
    (r.pick .res_2_B .res_2_C .res_2_D .res_2_E .res_2_H .res_2_L .res_2_A)
    (r.pick .res_3_B .res_3_C .res_3_D .res_3_E .res_3_H .res_3_L .res_3_A)
    (r.pick .res_4_B .res_4_C .res_4_D .res_4_E .res_4_H .res_4_L .res_4_A)
    (r.pick .res_5_B .res_5_C .res_5_D .res_5_E .res_5_H .res_5_L .res_5_A)
    (r.pick .res_6_B .res_6_C .res_6_D .res_6_E .res_6_H .res_6_L .res_6_A)
    (r.pick .res_7_B .res_7_C .res_7_D .res_7_E .res_7_H .res_7_L .res_7_A)

/-- `RES b,(HL)` (45_bit R374). -/
def Instr.resMem (b : Fin 8) : Instr :=
  pick8 b .res_0_mHL .res_1_mHL .res_2_mHL .res_3_mHL .res_4_mHL .res_5_mHL .res_6_mHL .res_7_mHL

/-- `SET b,r` (45_bit R375). -/
def Instr.setReg (b : Fin 8) (r : Reg8) : Instr :=
  pick8 b
    (r.pick .set_0_B .set_0_C .set_0_D .set_0_E .set_0_H .set_0_L .set_0_A)
    (r.pick .set_1_B .set_1_C .set_1_D .set_1_E .set_1_H .set_1_L .set_1_A)
    (r.pick .set_2_B .set_2_C .set_2_D .set_2_E .set_2_H .set_2_L .set_2_A)
    (r.pick .set_3_B .set_3_C .set_3_D .set_3_E .set_3_H .set_3_L .set_3_A)
    (r.pick .set_4_B .set_4_C .set_4_D .set_4_E .set_4_H .set_4_L .set_4_A)
    (r.pick .set_5_B .set_5_C .set_5_D .set_5_E .set_5_H .set_5_L .set_5_A)
    (r.pick .set_6_B .set_6_C .set_6_D .set_6_E .set_6_H .set_6_L .set_6_A)
    (r.pick .set_7_B .set_7_C .set_7_D .set_7_E .set_7_H .set_7_L .set_7_A)

/-- `SET b,(HL)` (45_bit R376). -/
def Instr.setMem (b : Fin 8) : Instr :=
  pick8 b .set_0_mHL .set_1_mHL .set_2_mHL .set_3_mHL .set_4_mHL .set_5_mHL .set_6_mHL .set_7_mHL

/-! Operand codes. -/

/-- The operand of a 3-bit register code: a register, or none for code 6, which names `(HL)` (30_encoding R182). -/
def regOfCode (k : Fin 8) : Option Reg8 :=
  pick8 k (some .b) (some .c) (some .d) (some .e) (some .h) (some .l) none (some .a)

/-- The pair of the field `dd` (30_encoding R183). -/
def pairOfCode (k : Fin 4) : Pair := pick4 k .bc .de .hl .sp

/-- The pair of the field `qq` (30_encoding R184). -/
def stackPairOfCode (k : Fin 4) : StackPair := pick4 k .bc .de .hl .af

/-- The condition of the field `cc` (30_encoding R185). -/
def condOfCode (k : Fin 4) : Cond := pick4 k .nz .z .nc .c

/-- The ALU operation of the field y (30_encoding R186). -/
def aluOfCode (k : Fin 8) : AluOp := pick8 k .add .adc .sub .sbc .and .xor .or .cp

/-- The rotate or shift of the field y (30_encoding R187). -/
def shiftOfCode (k : Fin 8) : ShiftOp := pick8 k .rlc .rrc .rl .rr .sla .sra .swap .srl

/-- `x = o[7:6]` (30_encoding R181). -/
def fieldX (o : Byte) : Fin 4 := (o.extractLsb' 6 2).toFin

/-- `y = o[5:3]` (30_encoding R181). -/
def fieldY (o : Byte) : Fin 8 := (o.extractLsb' 3 3).toFin

/-- `z = o[2:0]` (30_encoding R181). -/
def fieldZ (o : Byte) : Fin 8 := (o.extractLsb' 0 3).toFin

/-- `p = o[5:4]` (30_encoding R181). -/
def fieldP (o : Byte) : Fin 4 := (o.extractLsb' 4 2).toFin

/-- `q = o[3]` (30_encoding R181). -/
def fieldQ (o : Byte) : Bool := o.getLsbD 3

/-- The condition field `o[4:3]` (30_encoding R181). -/
def fieldCc (o : Byte) : Fin 4 := (o.extractLsb' 3 2).toFin

/-! The decoder. -/

/-- The instruction of the CB sub-opcode `s` (30_encoding R187, R199). -/
def cbInstr (s : Byte) : Instr :=
  match regOfCode (fieldZ s) with
  | some r =>
    pick4 (fieldX s) (.shiftReg (shiftOfCode (fieldY s)) r) (.bitReg (fieldY s) r) (.resReg (fieldY s) r)
      (.setReg (fieldY s) r)
  | none =>
    pick4 (fieldX s) (.shiftMem (shiftOfCode (fieldY s))) (.bitMem (fieldY s)) (.resMem (fieldY s)) (.setMem (fieldY s))

/-- What an opcode says: the instruction, given the operand its format fetches (30_encoding R180). -/
inductive Row where
  /-- Formats OP and ILLEGAL: one byte. -/
  | op (i : Instr)
  /-- Formats OP_N8, OP_E8 and OP_X8: one operand byte. -/
  | n8 (f : Byte → Instr)
  /-- Format OP_N16: a little-endian operand word. -/
  | n16 (f : Word → Instr)

/-- The opcodes 0x00 to 0x3F (30_encoding R198). -/
def rowX0 (o : Byte) : Row :=
  pick8 (fieldZ o)
    (pick8 (fieldY o) (.op .nop) (.n16 .ld_mnn_SP) (.n8 .stop) (.n8 .jr_e) (.n8 (.jrCond (condOfCode (fieldCc o))))
      (.n8 (.jrCond (condOfCode (fieldCc o)))) (.n8 (.jrCond (condOfCode (fieldCc o))))
      (.n8 (.jrCond (condOfCode (fieldCc o)))))
    (if fieldQ o then .op (.addHLPair (pairOfCode (fieldP o))) else .n16 (.ldPairNn (pairOfCode (fieldP o))))
    (pick8 (fieldY o) (.op .ld_mBC_A) (.op .ld_A_mBC) (.op .ld_mDE_A) (.op .ld_A_mDE) (.op .ld_mHLI_A) (.op .ld_A_mHLI)
      (.op .ld_mHLD_A) (.op .ld_A_mHLD))
    (if fieldQ o then .op (.decPair (pairOfCode (fieldP o))) else .op (.incPair (pairOfCode (fieldP o))))
    (match regOfCode (fieldY o) with
      | some r => .op (.incReg r)
      | none => .op .inc_mHL)
    (match regOfCode (fieldY o) with
      | some r => .op (.decReg r)
      | none => .op .dec_mHL)
    (match regOfCode (fieldY o) with
      | some r => .n8 (.ldRegN r)
      | none => .n8 .ld_mHL_n)
    (pick8 (fieldY o) (.op .rlca) (.op .rrca) (.op .rla) (.op .rra) (.op .daa) (.op .cpl) (.op .scf) (.op .ccf))

/-- The opcodes 0x40 to 0x7F: the loads and HALT (30_encoding R182, R198). -/
def rowX1 (o : Byte) : Row :=
  match regOfCode (fieldY o), regOfCode (fieldZ o) with
  | some dst, some r => .op (.ldRegReg dst r)
  | some dst, none => .op (.ldRegMem dst)
  | none, some r => .op (.ldMemReg r)
  | none, none => .op .halt

/-- The opcodes 0x80 to 0xBF: the ALU (30_encoding R186, R198). -/
def rowX2 (o : Byte) : Row :=
  match regOfCode (fieldZ o) with
  | some r => .op (.aluReg (aluOfCode (fieldY o)) r)
  | none => .op (.aluMem (aluOfCode (fieldY o)))

/-- The opcodes 0xC0 to 0xFF (30_encoding R193, R194, R198). -/
def rowX3 (o : Byte) : Row :=
  pick8 (fieldZ o)
    (pick8 (fieldY o) (.op (.retCond (condOfCode (fieldCc o)))) (.op (.retCond (condOfCode (fieldCc o))))
      (.op (.retCond (condOfCode (fieldCc o)))) (.op (.retCond (condOfCode (fieldCc o)))) (.n8 .ldh_mn_A) (.n8 .add_SP_e)
      (.n8 .ldh_A_mn) (.n8 .ld_HL_SPe))
    (if fieldQ o then pick4 (fieldP o) (.op .ret) (.op .reti) (.op .jp_HL) (.op .ld_SP_HL)
      else .op (.pop (stackPairOfCode (fieldP o))))
    (pick8 (fieldY o) (.n16 (.jpCond (condOfCode (fieldCc o)))) (.n16 (.jpCond (condOfCode (fieldCc o))))
      (.n16 (.jpCond (condOfCode (fieldCc o)))) (.n16 (.jpCond (condOfCode (fieldCc o)))) (.op .ldh_mC_A) (.n16 .ld_mnn_A)
      (.op .ldh_A_mC) (.n16 .ld_A_mnn))
    (pick8 (fieldY o) (.n16 .jp_nn) (.n8 cbInstr) (.op .illegal_D3) (.op .illegal_DB) (.op .illegal_E3) (.op .illegal_EB)
      (.op .di) (.op .ei))
    (pick8 (fieldY o) (.n16 (.callCond (condOfCode (fieldCc o)))) (.n16 (.callCond (condOfCode (fieldCc o))))
      (.n16 (.callCond (condOfCode (fieldCc o)))) (.n16 (.callCond (condOfCode (fieldCc o)))) (.op .illegal_E4)
      (.op .illegal_EC) (.op .illegal_F4) (.op .illegal_FC))
    (if fieldQ o then pick4 (fieldP o) (.n16 .call_nn) (.op .illegal_DD) (.op .illegal_ED) (.op .illegal_FD)
      else .op (.push (stackPairOfCode (fieldP o))))
    (.n8 (.aluN (aluOfCode (fieldY o))))
    (.op (.rst (fieldY o)))

/-- The row of an opcode (30_encoding R180, R181, R198). -/
def primaryRow (o : Byte) : Row := pick4 (fieldX o) (rowX0 o) (rowX1 o) (rowX2 o) (rowX3 o)

/-- Why bytes are not an instruction. No opcode is undefined (30_encoding R195): only a list that ends too early is refused. -/
inductive DecodeError where
  /-- No byte is left for the opcode. -/
  | noOpcode
  /-- The list ends before the operand bytes that the opcode's format asks for. -/
  | missingOperand
  deriving DecidableEq, Repr

/-- The instruction at the head of a list of bytes, and the bytes after it; the operand word is little-endian
(30_encoding R180, R189, R192). -/
def decode : List Byte → Except DecodeError (Instr × List Byte)
  | [] => .error .noOpcode
  | o :: r =>
    match primaryRow o, r with
    | .op i, r => .ok (i, r)
    | .n8 f, n :: r => .ok (f n, r)
    | .n16 f, l :: h :: r => .ok (f (join h l), r)
    | .n8 _, [] => .error .missingOperand
    | .n16 _, [] => .error .missingOperand
    | .n16 _, [_] => .error .missingOperand

/-! The encoder. -/

/-- A little-endian word as its two bytes, the low one first (30_encoding R189). -/
def leBytes (nn : Word) : List Byte := [loByte nn, hiByte nn]

/-- The bytes of an instruction, its opcode from the row of spec/opcode_table.json. -/
def encode : Instr → List Byte
  | .nop => [0x00#8]
  | .ld_BC_nn nn => 0x01#8 :: leBytes nn
  | .ld_mBC_A => [0x02#8]
  | .inc_BC => [0x03#8]
  | .inc_B => [0x04#8]
  | .dec_B => [0x05#8]
  | .ld_B_n n => [0x06#8, n]
  | .rlca => [0x07#8]
  | .ld_mnn_SP nn => 0x08#8 :: leBytes nn
  | .add_HL_BC => [0x09#8]
  | .ld_A_mBC => [0x0A#8]
  | .dec_BC => [0x0B#8]
  | .inc_C => [0x0C#8]
  | .dec_C => [0x0D#8]
  | .ld_C_n n => [0x0E#8, n]
  | .rrca => [0x0F#8]
  | .stop x => [0x10#8, x]
  | .ld_DE_nn nn => 0x11#8 :: leBytes nn
  | .ld_mDE_A => [0x12#8]
  | .inc_DE => [0x13#8]
  | .inc_D => [0x14#8]
  | .dec_D => [0x15#8]
  | .ld_D_n n => [0x16#8, n]
  | .rla => [0x17#8]
  | .jr_e e => [0x18#8, e]
  | .add_HL_DE => [0x19#8]
  | .ld_A_mDE => [0x1A#8]
  | .dec_DE => [0x1B#8]
  | .inc_E => [0x1C#8]
  | .dec_E => [0x1D#8]
  | .ld_E_n n => [0x1E#8, n]
  | .rra => [0x1F#8]
  | .jr_NZ_e e => [0x20#8, e]
  | .ld_HL_nn nn => 0x21#8 :: leBytes nn
  | .ld_mHLI_A => [0x22#8]
  | .inc_HL => [0x23#8]
  | .inc_H => [0x24#8]
  | .dec_H => [0x25#8]
  | .ld_H_n n => [0x26#8, n]
  | .daa => [0x27#8]
  | .jr_Z_e e => [0x28#8, e]
  | .add_HL_HL => [0x29#8]
  | .ld_A_mHLI => [0x2A#8]
  | .dec_HL => [0x2B#8]
  | .inc_L => [0x2C#8]
  | .dec_L => [0x2D#8]
  | .ld_L_n n => [0x2E#8, n]
  | .cpl => [0x2F#8]
  | .jr_NC_e e => [0x30#8, e]
  | .ld_SP_nn nn => 0x31#8 :: leBytes nn
  | .ld_mHLD_A => [0x32#8]
  | .inc_SP => [0x33#8]
  | .inc_mHL => [0x34#8]
  | .dec_mHL => [0x35#8]
  | .ld_mHL_n n => [0x36#8, n]
  | .scf => [0x37#8]
  | .jr_C_e e => [0x38#8, e]
  | .add_HL_SP => [0x39#8]
  | .ld_A_mHLD => [0x3A#8]
  | .dec_SP => [0x3B#8]
  | .inc_A => [0x3C#8]
  | .dec_A => [0x3D#8]
  | .ld_A_n n => [0x3E#8, n]
  | .ccf => [0x3F#8]
  | .ld_B_B => [0x40#8]
  | .ld_B_C => [0x41#8]
  | .ld_B_D => [0x42#8]
  | .ld_B_E => [0x43#8]
  | .ld_B_H => [0x44#8]
  | .ld_B_L => [0x45#8]
  | .ld_B_mHL => [0x46#8]
  | .ld_B_A => [0x47#8]
  | .ld_C_B => [0x48#8]
  | .ld_C_C => [0x49#8]
  | .ld_C_D => [0x4A#8]
  | .ld_C_E => [0x4B#8]
  | .ld_C_H => [0x4C#8]
  | .ld_C_L => [0x4D#8]
  | .ld_C_mHL => [0x4E#8]
  | .ld_C_A => [0x4F#8]
  | .ld_D_B => [0x50#8]
  | .ld_D_C => [0x51#8]
  | .ld_D_D => [0x52#8]
  | .ld_D_E => [0x53#8]
  | .ld_D_H => [0x54#8]
  | .ld_D_L => [0x55#8]
  | .ld_D_mHL => [0x56#8]
  | .ld_D_A => [0x57#8]
  | .ld_E_B => [0x58#8]
  | .ld_E_C => [0x59#8]
  | .ld_E_D => [0x5A#8]
  | .ld_E_E => [0x5B#8]
  | .ld_E_H => [0x5C#8]
  | .ld_E_L => [0x5D#8]
  | .ld_E_mHL => [0x5E#8]
  | .ld_E_A => [0x5F#8]
  | .ld_H_B => [0x60#8]
  | .ld_H_C => [0x61#8]
  | .ld_H_D => [0x62#8]
  | .ld_H_E => [0x63#8]
  | .ld_H_H => [0x64#8]
  | .ld_H_L => [0x65#8]
  | .ld_H_mHL => [0x66#8]
  | .ld_H_A => [0x67#8]
  | .ld_L_B => [0x68#8]
  | .ld_L_C => [0x69#8]
  | .ld_L_D => [0x6A#8]
  | .ld_L_E => [0x6B#8]
  | .ld_L_H => [0x6C#8]
  | .ld_L_L => [0x6D#8]
  | .ld_L_mHL => [0x6E#8]
  | .ld_L_A => [0x6F#8]
  | .ld_mHL_B => [0x70#8]
  | .ld_mHL_C => [0x71#8]
  | .ld_mHL_D => [0x72#8]
  | .ld_mHL_E => [0x73#8]
  | .ld_mHL_H => [0x74#8]
  | .ld_mHL_L => [0x75#8]
  | .halt => [0x76#8]
  | .ld_mHL_A => [0x77#8]
  | .ld_A_B => [0x78#8]
  | .ld_A_C => [0x79#8]
  | .ld_A_D => [0x7A#8]
  | .ld_A_E => [0x7B#8]
  | .ld_A_H => [0x7C#8]
  | .ld_A_L => [0x7D#8]
  | .ld_A_mHL => [0x7E#8]
  | .ld_A_A => [0x7F#8]
  | .add_A_B => [0x80#8]
  | .add_A_C => [0x81#8]
  | .add_A_D => [0x82#8]
  | .add_A_E => [0x83#8]
  | .add_A_H => [0x84#8]
  | .add_A_L => [0x85#8]
  | .add_A_mHL => [0x86#8]
  | .add_A_A => [0x87#8]
  | .adc_A_B => [0x88#8]
  | .adc_A_C => [0x89#8]
  | .adc_A_D => [0x8A#8]
  | .adc_A_E => [0x8B#8]
  | .adc_A_H => [0x8C#8]
  | .adc_A_L => [0x8D#8]
  | .adc_A_mHL => [0x8E#8]
  | .adc_A_A => [0x8F#8]
  | .sub_B => [0x90#8]
  | .sub_C => [0x91#8]
  | .sub_D => [0x92#8]
  | .sub_E => [0x93#8]
  | .sub_H => [0x94#8]
  | .sub_L => [0x95#8]
  | .sub_mHL => [0x96#8]
  | .sub_A => [0x97#8]
  | .sbc_A_B => [0x98#8]
  | .sbc_A_C => [0x99#8]
  | .sbc_A_D => [0x9A#8]
  | .sbc_A_E => [0x9B#8]
  | .sbc_A_H => [0x9C#8]
  | .sbc_A_L => [0x9D#8]
  | .sbc_A_mHL => [0x9E#8]
  | .sbc_A_A => [0x9F#8]
  | .and_B => [0xA0#8]
  | .and_C => [0xA1#8]
  | .and_D => [0xA2#8]
  | .and_E => [0xA3#8]
  | .and_H => [0xA4#8]
  | .and_L => [0xA5#8]
  | .and_mHL => [0xA6#8]
  | .and_A => [0xA7#8]
  | .xor_B => [0xA8#8]
  | .xor_C => [0xA9#8]
  | .xor_D => [0xAA#8]
  | .xor_E => [0xAB#8]
  | .xor_H => [0xAC#8]
  | .xor_L => [0xAD#8]
  | .xor_mHL => [0xAE#8]
  | .xor_A => [0xAF#8]
  | .or_B => [0xB0#8]
  | .or_C => [0xB1#8]
  | .or_D => [0xB2#8]
  | .or_E => [0xB3#8]
  | .or_H => [0xB4#8]
  | .or_L => [0xB5#8]
  | .or_mHL => [0xB6#8]
  | .or_A => [0xB7#8]
  | .cp_B => [0xB8#8]
  | .cp_C => [0xB9#8]
  | .cp_D => [0xBA#8]
  | .cp_E => [0xBB#8]
  | .cp_H => [0xBC#8]
  | .cp_L => [0xBD#8]
  | .cp_mHL => [0xBE#8]
  | .cp_A => [0xBF#8]
  | .ret_NZ => [0xC0#8]
  | .pop_BC => [0xC1#8]
  | .jp_NZ_nn nn => 0xC2#8 :: leBytes nn
  | .jp_nn nn => 0xC3#8 :: leBytes nn
  | .call_NZ_nn nn => 0xC4#8 :: leBytes nn
  | .push_BC => [0xC5#8]
  | .add_A_n n => [0xC6#8, n]
  | .rst_00 => [0xC7#8]
  | .ret_Z => [0xC8#8]
  | .ret => [0xC9#8]
  | .jp_Z_nn nn => 0xCA#8 :: leBytes nn
  | .prefixCB s => [0xCB#8, s]
  | .call_Z_nn nn => 0xCC#8 :: leBytes nn
  | .call_nn nn => 0xCD#8 :: leBytes nn
  | .adc_A_n n => [0xCE#8, n]
  | .rst_08 => [0xCF#8]
  | .ret_NC => [0xD0#8]
  | .pop_DE => [0xD1#8]
  | .jp_NC_nn nn => 0xD2#8 :: leBytes nn
  | .illegal_D3 => [0xD3#8]
  | .call_NC_nn nn => 0xD4#8 :: leBytes nn
  | .push_DE => [0xD5#8]
  | .sub_n n => [0xD6#8, n]
  | .rst_10 => [0xD7#8]
  | .ret_C => [0xD8#8]
  | .reti => [0xD9#8]
  | .jp_C_nn nn => 0xDA#8 :: leBytes nn
  | .illegal_DB => [0xDB#8]
  | .call_C_nn nn => 0xDC#8 :: leBytes nn
  | .illegal_DD => [0xDD#8]
  | .sbc_A_n n => [0xDE#8, n]
  | .rst_18 => [0xDF#8]
  | .ldh_mn_A n => [0xE0#8, n]
  | .pop_HL => [0xE1#8]
  | .ldh_mC_A => [0xE2#8]
  | .illegal_E3 => [0xE3#8]
  | .illegal_E4 => [0xE4#8]
  | .push_HL => [0xE5#8]
  | .and_n n => [0xE6#8, n]
  | .rst_20 => [0xE7#8]
  | .add_SP_e e => [0xE8#8, e]
  | .jp_HL => [0xE9#8]
  | .ld_mnn_A nn => 0xEA#8 :: leBytes nn
  | .illegal_EB => [0xEB#8]
  | .illegal_EC => [0xEC#8]
  | .illegal_ED => [0xED#8]
  | .xor_n n => [0xEE#8, n]
  | .rst_28 => [0xEF#8]
  | .ldh_A_mn n => [0xF0#8, n]
  | .pop_AF => [0xF1#8]
  | .ldh_A_mC => [0xF2#8]
  | .di => [0xF3#8]
  | .illegal_F4 => [0xF4#8]
  | .push_AF => [0xF5#8]
  | .or_n n => [0xF6#8, n]
  | .rst_30 => [0xF7#8]
  | .ld_HL_SPe e => [0xF8#8, e]
  | .ld_SP_HL => [0xF9#8]
  | .ld_A_mnn nn => 0xFA#8 :: leBytes nn
  | .ei => [0xFB#8]
  | .illegal_FC => [0xFC#8]
  | .illegal_FD => [0xFD#8]
  | .cp_n n => [0xFE#8, n]
  | .rst_38 => [0xFF#8]
  | .rlc_B => [0xCB#8, 0x00#8]
  | .rlc_C => [0xCB#8, 0x01#8]
  | .rlc_D => [0xCB#8, 0x02#8]
  | .rlc_E => [0xCB#8, 0x03#8]
  | .rlc_H => [0xCB#8, 0x04#8]
  | .rlc_L => [0xCB#8, 0x05#8]
  | .rlc_mHL => [0xCB#8, 0x06#8]
  | .rlc_A => [0xCB#8, 0x07#8]
  | .rrc_B => [0xCB#8, 0x08#8]
  | .rrc_C => [0xCB#8, 0x09#8]
  | .rrc_D => [0xCB#8, 0x0A#8]
  | .rrc_E => [0xCB#8, 0x0B#8]
  | .rrc_H => [0xCB#8, 0x0C#8]
  | .rrc_L => [0xCB#8, 0x0D#8]
  | .rrc_mHL => [0xCB#8, 0x0E#8]
  | .rrc_A => [0xCB#8, 0x0F#8]
  | .rl_B => [0xCB#8, 0x10#8]
  | .rl_C => [0xCB#8, 0x11#8]
  | .rl_D => [0xCB#8, 0x12#8]
  | .rl_E => [0xCB#8, 0x13#8]
  | .rl_H => [0xCB#8, 0x14#8]
  | .rl_L => [0xCB#8, 0x15#8]
  | .rl_mHL => [0xCB#8, 0x16#8]
  | .rl_A => [0xCB#8, 0x17#8]
  | .rr_B => [0xCB#8, 0x18#8]
  | .rr_C => [0xCB#8, 0x19#8]
  | .rr_D => [0xCB#8, 0x1A#8]
  | .rr_E => [0xCB#8, 0x1B#8]
  | .rr_H => [0xCB#8, 0x1C#8]
  | .rr_L => [0xCB#8, 0x1D#8]
  | .rr_mHL => [0xCB#8, 0x1E#8]
  | .rr_A => [0xCB#8, 0x1F#8]
  | .sla_B => [0xCB#8, 0x20#8]
  | .sla_C => [0xCB#8, 0x21#8]
  | .sla_D => [0xCB#8, 0x22#8]
  | .sla_E => [0xCB#8, 0x23#8]
  | .sla_H => [0xCB#8, 0x24#8]
  | .sla_L => [0xCB#8, 0x25#8]
  | .sla_mHL => [0xCB#8, 0x26#8]
  | .sla_A => [0xCB#8, 0x27#8]
  | .sra_B => [0xCB#8, 0x28#8]
  | .sra_C => [0xCB#8, 0x29#8]
  | .sra_D => [0xCB#8, 0x2A#8]
  | .sra_E => [0xCB#8, 0x2B#8]
  | .sra_H => [0xCB#8, 0x2C#8]
  | .sra_L => [0xCB#8, 0x2D#8]
  | .sra_mHL => [0xCB#8, 0x2E#8]
  | .sra_A => [0xCB#8, 0x2F#8]
  | .swap_B => [0xCB#8, 0x30#8]
  | .swap_C => [0xCB#8, 0x31#8]
  | .swap_D => [0xCB#8, 0x32#8]
  | .swap_E => [0xCB#8, 0x33#8]
  | .swap_H => [0xCB#8, 0x34#8]
  | .swap_L => [0xCB#8, 0x35#8]
  | .swap_mHL => [0xCB#8, 0x36#8]
  | .swap_A => [0xCB#8, 0x37#8]
  | .srl_B => [0xCB#8, 0x38#8]
  | .srl_C => [0xCB#8, 0x39#8]
  | .srl_D => [0xCB#8, 0x3A#8]
  | .srl_E => [0xCB#8, 0x3B#8]
  | .srl_H => [0xCB#8, 0x3C#8]
  | .srl_L => [0xCB#8, 0x3D#8]
  | .srl_mHL => [0xCB#8, 0x3E#8]
  | .srl_A => [0xCB#8, 0x3F#8]
  | .bit_0_B => [0xCB#8, 0x40#8]
  | .bit_0_C => [0xCB#8, 0x41#8]
  | .bit_0_D => [0xCB#8, 0x42#8]
  | .bit_0_E => [0xCB#8, 0x43#8]
  | .bit_0_H => [0xCB#8, 0x44#8]
  | .bit_0_L => [0xCB#8, 0x45#8]
  | .bit_0_mHL => [0xCB#8, 0x46#8]
  | .bit_0_A => [0xCB#8, 0x47#8]
  | .bit_1_B => [0xCB#8, 0x48#8]
  | .bit_1_C => [0xCB#8, 0x49#8]
  | .bit_1_D => [0xCB#8, 0x4A#8]
  | .bit_1_E => [0xCB#8, 0x4B#8]
  | .bit_1_H => [0xCB#8, 0x4C#8]
  | .bit_1_L => [0xCB#8, 0x4D#8]
  | .bit_1_mHL => [0xCB#8, 0x4E#8]
  | .bit_1_A => [0xCB#8, 0x4F#8]
  | .bit_2_B => [0xCB#8, 0x50#8]
  | .bit_2_C => [0xCB#8, 0x51#8]
  | .bit_2_D => [0xCB#8, 0x52#8]
  | .bit_2_E => [0xCB#8, 0x53#8]
  | .bit_2_H => [0xCB#8, 0x54#8]
  | .bit_2_L => [0xCB#8, 0x55#8]
  | .bit_2_mHL => [0xCB#8, 0x56#8]
  | .bit_2_A => [0xCB#8, 0x57#8]
  | .bit_3_B => [0xCB#8, 0x58#8]
  | .bit_3_C => [0xCB#8, 0x59#8]
  | .bit_3_D => [0xCB#8, 0x5A#8]
  | .bit_3_E => [0xCB#8, 0x5B#8]
  | .bit_3_H => [0xCB#8, 0x5C#8]
  | .bit_3_L => [0xCB#8, 0x5D#8]
  | .bit_3_mHL => [0xCB#8, 0x5E#8]
  | .bit_3_A => [0xCB#8, 0x5F#8]
  | .bit_4_B => [0xCB#8, 0x60#8]
  | .bit_4_C => [0xCB#8, 0x61#8]
  | .bit_4_D => [0xCB#8, 0x62#8]
  | .bit_4_E => [0xCB#8, 0x63#8]
  | .bit_4_H => [0xCB#8, 0x64#8]
  | .bit_4_L => [0xCB#8, 0x65#8]
  | .bit_4_mHL => [0xCB#8, 0x66#8]
  | .bit_4_A => [0xCB#8, 0x67#8]
  | .bit_5_B => [0xCB#8, 0x68#8]
  | .bit_5_C => [0xCB#8, 0x69#8]
  | .bit_5_D => [0xCB#8, 0x6A#8]
  | .bit_5_E => [0xCB#8, 0x6B#8]
  | .bit_5_H => [0xCB#8, 0x6C#8]
  | .bit_5_L => [0xCB#8, 0x6D#8]
  | .bit_5_mHL => [0xCB#8, 0x6E#8]
  | .bit_5_A => [0xCB#8, 0x6F#8]
  | .bit_6_B => [0xCB#8, 0x70#8]
  | .bit_6_C => [0xCB#8, 0x71#8]
  | .bit_6_D => [0xCB#8, 0x72#8]
  | .bit_6_E => [0xCB#8, 0x73#8]
  | .bit_6_H => [0xCB#8, 0x74#8]
  | .bit_6_L => [0xCB#8, 0x75#8]
  | .bit_6_mHL => [0xCB#8, 0x76#8]
  | .bit_6_A => [0xCB#8, 0x77#8]
  | .bit_7_B => [0xCB#8, 0x78#8]
  | .bit_7_C => [0xCB#8, 0x79#8]
  | .bit_7_D => [0xCB#8, 0x7A#8]
  | .bit_7_E => [0xCB#8, 0x7B#8]
  | .bit_7_H => [0xCB#8, 0x7C#8]
  | .bit_7_L => [0xCB#8, 0x7D#8]
  | .bit_7_mHL => [0xCB#8, 0x7E#8]
  | .bit_7_A => [0xCB#8, 0x7F#8]
  | .res_0_B => [0xCB#8, 0x80#8]
  | .res_0_C => [0xCB#8, 0x81#8]
  | .res_0_D => [0xCB#8, 0x82#8]
  | .res_0_E => [0xCB#8, 0x83#8]
  | .res_0_H => [0xCB#8, 0x84#8]
  | .res_0_L => [0xCB#8, 0x85#8]
  | .res_0_mHL => [0xCB#8, 0x86#8]
  | .res_0_A => [0xCB#8, 0x87#8]
  | .res_1_B => [0xCB#8, 0x88#8]
  | .res_1_C => [0xCB#8, 0x89#8]
  | .res_1_D => [0xCB#8, 0x8A#8]
  | .res_1_E => [0xCB#8, 0x8B#8]
  | .res_1_H => [0xCB#8, 0x8C#8]
  | .res_1_L => [0xCB#8, 0x8D#8]
  | .res_1_mHL => [0xCB#8, 0x8E#8]
  | .res_1_A => [0xCB#8, 0x8F#8]
  | .res_2_B => [0xCB#8, 0x90#8]
  | .res_2_C => [0xCB#8, 0x91#8]
  | .res_2_D => [0xCB#8, 0x92#8]
  | .res_2_E => [0xCB#8, 0x93#8]
  | .res_2_H => [0xCB#8, 0x94#8]
  | .res_2_L => [0xCB#8, 0x95#8]
  | .res_2_mHL => [0xCB#8, 0x96#8]
  | .res_2_A => [0xCB#8, 0x97#8]
  | .res_3_B => [0xCB#8, 0x98#8]
  | .res_3_C => [0xCB#8, 0x99#8]
  | .res_3_D => [0xCB#8, 0x9A#8]
  | .res_3_E => [0xCB#8, 0x9B#8]
  | .res_3_H => [0xCB#8, 0x9C#8]
  | .res_3_L => [0xCB#8, 0x9D#8]
  | .res_3_mHL => [0xCB#8, 0x9E#8]
  | .res_3_A => [0xCB#8, 0x9F#8]
  | .res_4_B => [0xCB#8, 0xA0#8]
  | .res_4_C => [0xCB#8, 0xA1#8]
  | .res_4_D => [0xCB#8, 0xA2#8]
  | .res_4_E => [0xCB#8, 0xA3#8]
  | .res_4_H => [0xCB#8, 0xA4#8]
  | .res_4_L => [0xCB#8, 0xA5#8]
  | .res_4_mHL => [0xCB#8, 0xA6#8]
  | .res_4_A => [0xCB#8, 0xA7#8]
  | .res_5_B => [0xCB#8, 0xA8#8]
  | .res_5_C => [0xCB#8, 0xA9#8]
  | .res_5_D => [0xCB#8, 0xAA#8]
  | .res_5_E => [0xCB#8, 0xAB#8]
  | .res_5_H => [0xCB#8, 0xAC#8]
  | .res_5_L => [0xCB#8, 0xAD#8]
  | .res_5_mHL => [0xCB#8, 0xAE#8]
  | .res_5_A => [0xCB#8, 0xAF#8]
  | .res_6_B => [0xCB#8, 0xB0#8]
  | .res_6_C => [0xCB#8, 0xB1#8]
  | .res_6_D => [0xCB#8, 0xB2#8]
  | .res_6_E => [0xCB#8, 0xB3#8]
  | .res_6_H => [0xCB#8, 0xB4#8]
  | .res_6_L => [0xCB#8, 0xB5#8]
  | .res_6_mHL => [0xCB#8, 0xB6#8]
  | .res_6_A => [0xCB#8, 0xB7#8]
  | .res_7_B => [0xCB#8, 0xB8#8]
  | .res_7_C => [0xCB#8, 0xB9#8]
  | .res_7_D => [0xCB#8, 0xBA#8]
  | .res_7_E => [0xCB#8, 0xBB#8]
  | .res_7_H => [0xCB#8, 0xBC#8]
  | .res_7_L => [0xCB#8, 0xBD#8]
  | .res_7_mHL => [0xCB#8, 0xBE#8]
  | .res_7_A => [0xCB#8, 0xBF#8]
  | .set_0_B => [0xCB#8, 0xC0#8]
  | .set_0_C => [0xCB#8, 0xC1#8]
  | .set_0_D => [0xCB#8, 0xC2#8]
  | .set_0_E => [0xCB#8, 0xC3#8]
  | .set_0_H => [0xCB#8, 0xC4#8]
  | .set_0_L => [0xCB#8, 0xC5#8]
  | .set_0_mHL => [0xCB#8, 0xC6#8]
  | .set_0_A => [0xCB#8, 0xC7#8]
  | .set_1_B => [0xCB#8, 0xC8#8]
  | .set_1_C => [0xCB#8, 0xC9#8]
  | .set_1_D => [0xCB#8, 0xCA#8]
  | .set_1_E => [0xCB#8, 0xCB#8]
  | .set_1_H => [0xCB#8, 0xCC#8]
  | .set_1_L => [0xCB#8, 0xCD#8]
  | .set_1_mHL => [0xCB#8, 0xCE#8]
  | .set_1_A => [0xCB#8, 0xCF#8]
  | .set_2_B => [0xCB#8, 0xD0#8]
  | .set_2_C => [0xCB#8, 0xD1#8]
  | .set_2_D => [0xCB#8, 0xD2#8]
  | .set_2_E => [0xCB#8, 0xD3#8]
  | .set_2_H => [0xCB#8, 0xD4#8]
  | .set_2_L => [0xCB#8, 0xD5#8]
  | .set_2_mHL => [0xCB#8, 0xD6#8]
  | .set_2_A => [0xCB#8, 0xD7#8]
  | .set_3_B => [0xCB#8, 0xD8#8]
  | .set_3_C => [0xCB#8, 0xD9#8]
  | .set_3_D => [0xCB#8, 0xDA#8]
  | .set_3_E => [0xCB#8, 0xDB#8]
  | .set_3_H => [0xCB#8, 0xDC#8]
  | .set_3_L => [0xCB#8, 0xDD#8]
  | .set_3_mHL => [0xCB#8, 0xDE#8]
  | .set_3_A => [0xCB#8, 0xDF#8]
  | .set_4_B => [0xCB#8, 0xE0#8]
  | .set_4_C => [0xCB#8, 0xE1#8]
  | .set_4_D => [0xCB#8, 0xE2#8]
  | .set_4_E => [0xCB#8, 0xE3#8]
  | .set_4_H => [0xCB#8, 0xE4#8]
  | .set_4_L => [0xCB#8, 0xE5#8]
  | .set_4_mHL => [0xCB#8, 0xE6#8]
  | .set_4_A => [0xCB#8, 0xE7#8]
  | .set_5_B => [0xCB#8, 0xE8#8]
  | .set_5_C => [0xCB#8, 0xE9#8]
  | .set_5_D => [0xCB#8, 0xEA#8]
  | .set_5_E => [0xCB#8, 0xEB#8]
  | .set_5_H => [0xCB#8, 0xEC#8]
  | .set_5_L => [0xCB#8, 0xED#8]
  | .set_5_mHL => [0xCB#8, 0xEE#8]
  | .set_5_A => [0xCB#8, 0xEF#8]
  | .set_6_B => [0xCB#8, 0xF0#8]
  | .set_6_C => [0xCB#8, 0xF1#8]
  | .set_6_D => [0xCB#8, 0xF2#8]
  | .set_6_E => [0xCB#8, 0xF3#8]
  | .set_6_H => [0xCB#8, 0xF4#8]
  | .set_6_L => [0xCB#8, 0xF5#8]
  | .set_6_mHL => [0xCB#8, 0xF6#8]
  | .set_6_A => [0xCB#8, 0xF7#8]
  | .set_7_B => [0xCB#8, 0xF8#8]
  | .set_7_C => [0xCB#8, 0xF9#8]
  | .set_7_D => [0xCB#8, 0xFA#8]
  | .set_7_E => [0xCB#8, 0xFB#8]
  | .set_7_H => [0xCB#8, 0xFC#8]
  | .set_7_L => [0xCB#8, 0xFD#8]
  | .set_7_mHL => [0xCB#8, 0xFE#8]
  | .set_7_A => [0xCB#8, 0xFF#8]

/-- The number of bytes of an instruction (30_encoding R180). -/
def Instr.length (i : Instr) : Nat := (encode i).length

/-- The first `k` bytes of an `n`-byte number, the most significant byte first. -/
def bytesMsbFirst (n w : Nat) : Nat → List Byte
  | 0 => []
  | k + 1 => bytesMsbFirst n w k ++ [BitVec.ofNat 8 (w >>> (8 * (n - 1 - k)))]

/-- A word of spec/opcode_table.json with its first byte in its highest bits. The table writes a two-byte row so (0xCB00 is the
byte 0xCB and then 0x00); the same row with its first byte in bits 7..0 is told by the prefix in its low byte, which no row of
the table has without having it in its high byte (notes/assumptions 12). -/
def tableWord (nbits w : Nat) : Nat :=
  if nbits = 16 ∧ w % 256 = 0xCB ∧ w / 256 ≠ 0xCB then 0xCB00 + w / 256 else w

/-- The bytes of an instruction of spec/opcode_table.json, padded with zeros to three bytes (notes/assumptions 12). -/
def tableBytes (nbits w : Nat) : List Byte :=
  (bytesMsbFirst (nbits / 8) (tableWord nbits w) (nbits / 8) ++ [0#8, 0#8, 0#8]).take 3

/-- The instruction the decoder reads from a word of spec/opcode_table.json. -/
def decodeTableWord (nbits w : Nat) : Option Instr :=
  match decode (tableBytes nbits w) with
  | .ok (i, _) => some i
  | .error _ => none

end Sys2Proof
end

