-- ==== Sys2Proof/Machine/Rotate.lean ====
section
/-!
DEFINITION. The rotates, shifts and SWAP (44_rotate_shift R341 to R360).
-/
namespace Sys2Proof.Machine

/-- RLCA, RRCA, RLA, RRA (44_rotate_shift R341 to R344). -/
def State.rotateA (s : State) (o : ShiftOp) : State :=
  let r := rotateA8 o s.cpu.a s.cpu.flagC
  ((s.setReg .a r.value).setF r.f).charge 4

/-- A CB rotate or shift of a register (44_rotate_shift R340, R345 to R359). -/
def State.shiftReg (s : State) (o : ShiftOp) (dst : Reg8) : State :=
  let r := shift8 o (s.getReg dst) s.cpu.flagC
  ((s.setReg dst r.value).setF r.f).charge 8

/-- A CB rotate or shift of the byte at HL (44_rotate_shift R340, R346 to R360). -/
def State.shiftMem (s : State) (o : ShiftOp) : State :=
  let r := shift8 o (s.busRead s.hl) s.cpu.flagC
  ((s.busWrite s.hl r.value).setF r.f).charge 16

/-- `RLCA` (44_rotate_shift R341). -/
def execRlca (s : State) : Result := .next (s.rotateA .rlc)

/-- `RRCA` (44_rotate_shift R342). -/
def execRrca (s : State) : Result := .next (s.rotateA .rrc)

/-- `RLA` (44_rotate_shift R343). -/
def execRla (s : State) : Result := .next (s.rotateA .rl)

/-- `RRA` (44_rotate_shift R344). -/
def execRra (s : State) : Result := .next (s.rotateA .rr)

/-- `RLC B` (44_rotate_shift R345). -/
def execRlc_B (s : State) : Result := .next (s.shiftReg .rlc .b)

/-- `RLC C` (44_rotate_shift R345). -/
def execRlc_C (s : State) : Result := .next (s.shiftReg .rlc .c)

/-- `RLC D` (44_rotate_shift R345). -/
def execRlc_D (s : State) : Result := .next (s.shiftReg .rlc .d)

/-- `RLC E` (44_rotate_shift R345). -/
def execRlc_E (s : State) : Result := .next (s.shiftReg .rlc .e)

/-- `RLC H` (44_rotate_shift R345). -/
def execRlc_H (s : State) : Result := .next (s.shiftReg .rlc .h)

/-- `RLC L` (44_rotate_shift R345). -/
def execRlc_L (s : State) : Result := .next (s.shiftReg .rlc .l)

/-- `RLC (HL)` (44_rotate_shift R346). -/
def execRlc_mHL (s : State) : Result := .next (s.shiftMem .rlc)

/-- `RLC A` (44_rotate_shift R345). -/
def execRlc_A (s : State) : Result := .next (s.shiftReg .rlc .a)

/-- `RRC B` (44_rotate_shift R347). -/
def execRrc_B (s : State) : Result := .next (s.shiftReg .rrc .b)

/-- `RRC C` (44_rotate_shift R347). -/
def execRrc_C (s : State) : Result := .next (s.shiftReg .rrc .c)

/-- `RRC D` (44_rotate_shift R347). -/
def execRrc_D (s : State) : Result := .next (s.shiftReg .rrc .d)

/-- `RRC E` (44_rotate_shift R347). -/
def execRrc_E (s : State) : Result := .next (s.shiftReg .rrc .e)

/-- `RRC H` (44_rotate_shift R347). -/
def execRrc_H (s : State) : Result := .next (s.shiftReg .rrc .h)

/-- `RRC L` (44_rotate_shift R347). -/
def execRrc_L (s : State) : Result := .next (s.shiftReg .rrc .l)

/-- `RRC (HL)` (44_rotate_shift R348). -/
def execRrc_mHL (s : State) : Result := .next (s.shiftMem .rrc)

/-- `RRC A` (44_rotate_shift R347). -/
def execRrc_A (s : State) : Result := .next (s.shiftReg .rrc .a)

/-- `RL B` (44_rotate_shift R349). -/
def execRl_B (s : State) : Result := .next (s.shiftReg .rl .b)

/-- `RL C` (44_rotate_shift R349). -/
def execRl_C (s : State) : Result := .next (s.shiftReg .rl .c)

/-- `RL D` (44_rotate_shift R349). -/
def execRl_D (s : State) : Result := .next (s.shiftReg .rl .d)

/-- `RL E` (44_rotate_shift R349). -/
def execRl_E (s : State) : Result := .next (s.shiftReg .rl .e)

/-- `RL H` (44_rotate_shift R349). -/
def execRl_H (s : State) : Result := .next (s.shiftReg .rl .h)

/-- `RL L` (44_rotate_shift R349). -/
def execRl_L (s : State) : Result := .next (s.shiftReg .rl .l)

/-- `RL (HL)` (44_rotate_shift R350). -/
def execRl_mHL (s : State) : Result := .next (s.shiftMem .rl)

/-- `RL A` (44_rotate_shift R349). -/
def execRl_A (s : State) : Result := .next (s.shiftReg .rl .a)

/-- `RR B` (44_rotate_shift R351). -/
def execRr_B (s : State) : Result := .next (s.shiftReg .rr .b)

/-- `RR C` (44_rotate_shift R351). -/
def execRr_C (s : State) : Result := .next (s.shiftReg .rr .c)

/-- `RR D` (44_rotate_shift R351). -/
def execRr_D (s : State) : Result := .next (s.shiftReg .rr .d)

/-- `RR E` (44_rotate_shift R351). -/
def execRr_E (s : State) : Result := .next (s.shiftReg .rr .e)

/-- `RR H` (44_rotate_shift R351). -/
def execRr_H (s : State) : Result := .next (s.shiftReg .rr .h)

/-- `RR L` (44_rotate_shift R351). -/
def execRr_L (s : State) : Result := .next (s.shiftReg .rr .l)

/-- `RR (HL)` (44_rotate_shift R352). -/
def execRr_mHL (s : State) : Result := .next (s.shiftMem .rr)

/-- `RR A` (44_rotate_shift R351). -/
def execRr_A (s : State) : Result := .next (s.shiftReg .rr .a)

/-- `SLA B` (44_rotate_shift R353). -/
def execSla_B (s : State) : Result := .next (s.shiftReg .sla .b)

/-- `SLA C` (44_rotate_shift R353). -/
def execSla_C (s : State) : Result := .next (s.shiftReg .sla .c)

/-- `SLA D` (44_rotate_shift R353). -/
def execSla_D (s : State) : Result := .next (s.shiftReg .sla .d)

/-- `SLA E` (44_rotate_shift R353). -/
def execSla_E (s : State) : Result := .next (s.shiftReg .sla .e)

/-- `SLA H` (44_rotate_shift R353). -/
def execSla_H (s : State) : Result := .next (s.shiftReg .sla .h)

/-- `SLA L` (44_rotate_shift R353). -/
def execSla_L (s : State) : Result := .next (s.shiftReg .sla .l)

/-- `SLA (HL)` (44_rotate_shift R354). -/
def execSla_mHL (s : State) : Result := .next (s.shiftMem .sla)

/-- `SLA A` (44_rotate_shift R353). -/
def execSla_A (s : State) : Result := .next (s.shiftReg .sla .a)

/-- `SRA B` (44_rotate_shift R355). -/
def execSra_B (s : State) : Result := .next (s.shiftReg .sra .b)

/-- `SRA C` (44_rotate_shift R355). -/
def execSra_C (s : State) : Result := .next (s.shiftReg .sra .c)

/-- `SRA D` (44_rotate_shift R355). -/
def execSra_D (s : State) : Result := .next (s.shiftReg .sra .d)

/-- `SRA E` (44_rotate_shift R355). -/
def execSra_E (s : State) : Result := .next (s.shiftReg .sra .e)

/-- `SRA H` (44_rotate_shift R355). -/
def execSra_H (s : State) : Result := .next (s.shiftReg .sra .h)

/-- `SRA L` (44_rotate_shift R355). -/
def execSra_L (s : State) : Result := .next (s.shiftReg .sra .l)

/-- `SRA (HL)` (44_rotate_shift R356). -/
def execSra_mHL (s : State) : Result := .next (s.shiftMem .sra)

/-- `SRA A` (44_rotate_shift R355). -/
def execSra_A (s : State) : Result := .next (s.shiftReg .sra .a)

/-- `SWAP B` (44_rotate_shift R357). -/
def execSwap_B (s : State) : Result := .next (s.shiftReg .swap .b)

/-- `SWAP C` (44_rotate_shift R357). -/
def execSwap_C (s : State) : Result := .next (s.shiftReg .swap .c)

/-- `SWAP D` (44_rotate_shift R357). -/
def execSwap_D (s : State) : Result := .next (s.shiftReg .swap .d)

/-- `SWAP E` (44_rotate_shift R357). -/
def execSwap_E (s : State) : Result := .next (s.shiftReg .swap .e)

/-- `SWAP H` (44_rotate_shift R357). -/
def execSwap_H (s : State) : Result := .next (s.shiftReg .swap .h)

/-- `SWAP L` (44_rotate_shift R357). -/
def execSwap_L (s : State) : Result := .next (s.shiftReg .swap .l)

/-- `SWAP (HL)` (44_rotate_shift R358). -/
def execSwap_mHL (s : State) : Result := .next (s.shiftMem .swap)

/-- `SWAP A` (44_rotate_shift R357). -/
def execSwap_A (s : State) : Result := .next (s.shiftReg .swap .a)

/-- `SRL B` (44_rotate_shift R359). -/
def execSrl_B (s : State) : Result := .next (s.shiftReg .srl .b)

/-- `SRL C` (44_rotate_shift R359). -/
def execSrl_C (s : State) : Result := .next (s.shiftReg .srl .c)

/-- `SRL D` (44_rotate_shift R359). -/
def execSrl_D (s : State) : Result := .next (s.shiftReg .srl .d)

/-- `SRL E` (44_rotate_shift R359). -/
def execSrl_E (s : State) : Result := .next (s.shiftReg .srl .e)

/-- `SRL H` (44_rotate_shift R359). -/
def execSrl_H (s : State) : Result := .next (s.shiftReg .srl .h)

/-- `SRL L` (44_rotate_shift R359). -/
def execSrl_L (s : State) : Result := .next (s.shiftReg .srl .l)

/-- `SRL (HL)` (44_rotate_shift R360). -/
def execSrl_mHL (s : State) : Result := .next (s.shiftMem .srl)

/-- `SRL A` (44_rotate_shift R359). -/
def execSrl_A (s : State) : Result := .next (s.shiftReg .srl .a)

end Sys2Proof.Machine
end

