-- ==== Sys2Proof/Machine/Prefix.lean ====
section
/-!
DEFINITION. The CB prefix: the CB instruction of a sub-opcode, executed by the fields of the sub-opcode (30_encoding R187, R193, 47_system R416).
-/
namespace Sys2Proof.Machine

/-- A CB instruction on a register, by the field x and the code y (30_encoding R187). -/
def State.cbReg (s : State) (x : Fin 4) (y : Fin 8) (r : Reg8) : State :=
  pick4 x (s.shiftReg (shiftOfCode y) r) (s.bitReg y r) (s.resReg y r) (s.setBitReg y r)

/-- A CB instruction on `(HL)`, by the field x and the code y (30_encoding R187). -/
def State.cbMem (s : State) (x : Fin 4) (y : Fin 8) : State :=
  pick4 x (s.shiftMem (shiftOfCode y)) (s.bitMem y) (s.resMem y) (s.setBitMem y)

/-- The CB instruction of sub-opcode `c` (30_encoding R187, 47_system R416). -/
def State.cbOp (s : State) (c : Byte) : State :=
  match regOfCode (fieldZ c) with
  | some r => s.cbReg (fieldX c) (fieldY c) r
  | none => s.cbMem (fieldX c) (fieldY c)

/-- `PREFIX CB` (47_system R416). -/
def execPrefixCB (s : Byte) (st : State) : Result := .next (st.cbOp s)

end Sys2Proof.Machine
end

