-- ==== Sys2Proof/Machine/System.lean ====
section
/-!
DEFINITION. The system instructions and the illegal opcodes (47_system R411 to R415, R417).
-/
namespace Sys2Proof.Machine

/-- `NOP` (47_system R411). -/
def State.nopOp (s : State) : State := s.charge 4

/-- `HALT`: halt, do nothing, or arm the HALT bug (47_system R412). -/
def State.haltOp (s : State) : State :=
  if s.pend = 0#5 then State.charge { s with cpu.runMode := .halted } 4
  else if s.cpu.ime then s.charge 4
  else State.charge { s with cpu.haltBug := true } 4

/-- `STOP`: a prepared speed switch in CGB mode, else stop (47_system R413). -/
def State.stopOp (s : State) : State :=
  if s.cfg.hwMode = .cgb ∧ s.cpu.speedPrepare = true then
    State.charge
      { s.resetDivider with cpu.doubleSpeed := !s.cpu.doubleSpeed, cpu.speedPrepare := false } 4
  else State.charge { s.resetDivider with cpu.runMode := .stopped } 4

/-- `DI` (47_system R414). -/
def State.diOp (s : State) : State := State.charge { s with cpu.ime := false, cpu.imePending := false } 4

/-- `EI` (47_system R415). -/
def State.eiOp (s : State) : State := State.charge { s with cpu.imePending := true } 4

/-- An illegal opcode (47_system R417). -/
def State.illegalOp (s : State) : State := s.lockUp.charge 4

/-- `NOP` (47_system R411). -/
def execNop (s : State) : Result := .next (s.nopOp)

/-- `STOP` (47_system R413). -/
def execStop (_x : Byte) (s : State) : Result := .next (s.stopOp)

/-- `HALT` (47_system R412). -/
def execHalt (s : State) : Result := .next (s.haltOp)

/-- `ILLEGAL_D3` (47_system R417). -/
def execIllegal_D3 (s : State) : Result := .next (s.illegalOp)

/-- `ILLEGAL_DB` (47_system R417). -/
def execIllegal_DB (s : State) : Result := .next (s.illegalOp)

/-- `ILLEGAL_DD` (47_system R417). -/
def execIllegal_DD (s : State) : Result := .next (s.illegalOp)

/-- `ILLEGAL_E3` (47_system R417). -/
def execIllegal_E3 (s : State) : Result := .next (s.illegalOp)

/-- `ILLEGAL_E4` (47_system R417). -/
def execIllegal_E4 (s : State) : Result := .next (s.illegalOp)

/-- `ILLEGAL_EB` (47_system R417). -/
def execIllegal_EB (s : State) : Result := .next (s.illegalOp)

/-- `ILLEGAL_EC` (47_system R417). -/
def execIllegal_EC (s : State) : Result := .next (s.illegalOp)

/-- `ILLEGAL_ED` (47_system R417). -/
def execIllegal_ED (s : State) : Result := .next (s.illegalOp)

/-- `DI` (47_system R414). -/
def execDi (s : State) : Result := .next (s.diOp)

/-- `ILLEGAL_F4` (47_system R417). -/
def execIllegal_F4 (s : State) : Result := .next (s.illegalOp)

/-- `EI` (47_system R415). -/
def execEi (s : State) : Result := .next (s.eiOp)

/-- `ILLEGAL_FC` (47_system R417). -/
def execIllegal_FC (s : State) : Result := .next (s.illegalOp)

/-- `ILLEGAL_FD` (47_system R417). -/
def execIllegal_FD (s : State) : Result := .next (s.illegalOp)

end Sys2Proof.Machine
end

