-- ==== Sys2Proof/Machine/CpuStep.lean ====
section
/-!
DEFINITION. The CPU step (60_exceptions R437 to R443): locked, stopped, halted, dispatch or instruction, in that order.
-/
namespace Sys2Proof.Machine

/-- The address of the first operand byte: the address after the opcode, or the opcode's own address if the HALT bug is armed,
since the opcode fetch then does not increment PC (60_exceptions R437, R439). -/
def State.operandAddr (s : State) : Word := if s.cpu.haltBug then s.cpu.pc else s.cpu.pc + 1

/-- The bytes an instruction at PC is made of: the opcode and the two bytes where its operands would lie. Reads change no state,
so reading all three is the same as reading those the format asks for (30_encoding R180, R192, 20_memory R99, R101). -/
def State.fetchWindow (s : State) : List Byte :=
  [s.busRead s.cpu.pc, s.busRead s.operandAddr, s.busRead (s.operandAddr + 1)]

/-- The state after the fetch of an instruction of `n` bytes: PC is `PC_next` and the HALT bug is disarmed
(10_state R35, 60_exceptions R437). -/
def State.afterFetch (s : State) (n : Nat) : State :=
  { s with cpu.pc := s.operandAddr + BitVec.ofNat 16 (n - 1), cpu.haltBug := false }

/-- The end of an instruction step that began with the EI delay pending (60_exceptions R437, R443). -/
def State.finishEi (s : State) (wasPending : Bool) : State :=
  if wasPending && s.cpu.imePending then { s with cpu.ime := true, cpu.imePending := false } else s

/-- The instruction case of the CPU step (60_exceptions R437). -/
def State.instructionStep (s : State) : Result :=
  match decode s.fetchWindow with
  | .error _ => .refused .undecodable
  | .ok (i, rest) =>
    match exec i (s.afterFetch (3 - rest.length)) with
    | .next t => .next (t.finishEi s.cpu.imePending)
    | .fault r => .fault r
    | .refused r => .refused r

/-- The interrupt the check before a fetch diverts to, if any (60_exceptions R436, R437). -/
def State.interruptDue (s : State) : Option IrqSource := if s.cpu.ime then s.nextPending else none

/-- `runMode <- Running` if the condition holds. -/
def State.wakeIf (s : State) (p : Bool) : State := if p then { s with cpu.runMode := .running } else s

/-- One CPU step; the cost it reports is left in the state (60_exceptions R437 to R442). -/
def State.cpuStep (s : State) : Result :=
  if s.cpu.locked then .next (s.charge 4)
  else
    match s.cpu.runMode with
    | .stopped => .next ((s.wakeIf s.joypadLineLow).charge 4)
    | .halted => .next ((s.wakeIf (decide (s.pend ≠ 0#5))).charge 4)
    | .running =>
      match s.interruptDue with
      | some k => .next (s.dispatch k)
      | none => s.instructionStep

end Sys2Proof.Machine
end

