-- ==== Sys2Proof/Machine/Devices.lean ====
section
/-!
DEFINITION. The device part of the system step (60_exceptions R449, R450).
-/
namespace Sys2Proof.Machine

/-- One device cycle: timer, PPU, serial, HDMA, in this order (60_exceptions R449). -/
def State.deviceCycle (s : State) : State := s.timerTick.ppuTick.serialTick.hdmaTick

/-- `n` device cycles. -/
def State.deviceCycles (s : State) : Nat → State
  | 0 => s
  | n + 1 => (s.deviceCycles n).deviceCycle

/-- The device cycles a CPU step pays for: its cost, halved in double speed as it stands after the step
(60_exceptions R449, R450). -/
def State.deviceCount (s : State) : Nat := if s.cpu.doubleSpeed then s.cpu.cost / 2 else s.cpu.cost

/-- The devices' part of a system step. -/
def State.runDevices (s : State) : State := s.deviceCycles s.deviceCount

end Sys2Proof.Machine
end

