-- ==== Sys2Proof/Machine/Poke.lean ====
section
/-!
DEFINITION. Placing bytes from outside the machine, for State.withFetchWord of Machine/Step.lean: the program is loaded, not stored
by an instruction (notes/assumptions 3, 18).
-/
namespace Sys2Proof.Machine

/-- The state whose store holds `v` at the place an address resolves to; a ROM byte goes into the image of the configuration.
An address without a store is left alone. -/
def State.poke (s : State) (addr : Word) (v : Byte) : State :=
  match s.place addr with
  | .rom a => { s with cfg.rom := Memory.write s.cfg.rom (s.romIndex a) v }
  | .vram k => { s with vram := Memory.write s.vram k v }
  | .cartRam a =>
    match s.cartRamIndex a with
    | some k => { s with cart.ram := Memory.write s.cart.ram k v }
    | none => s
  | .wram k => { s with wram := Memory.write s.wram k v }
  | .oam k => { s with oam := Memory.write s.oam k v }
  | .hram k => { s with hram := Memory.write s.hram k v }
  | .ie => { s with irq.ie := v }
  | .unusable | .io _ | .unmapped => s

/-- The state with a list of bytes placed from an address on. -/
def State.pokeBytes (s : State) (addr : Word) : List Byte → State
  | [] => s
  | v :: r => State.pokeBytes (s.poke addr v) (addr + 1) r

/-- The state whose next CPU step fetches: running, not locked, the HALT bug not armed, and IME clear if an interrupt would be
taken first, after the host's move too. -/
def State.readyToFetch (s : State) : State :=
  let t := { s with cpu.locked := false, cpu.runMode := .running, cpu.haltBug := false }
  match t.takeHostInput.interruptDue with
  | some _ => { t with cpu.ime := false }
  | none => t

end Sys2Proof.Machine
end

