-- ==== Sys2Proof/Machine/Step.lean ====
section
/-!
DEFINITION. The system step (60_exceptions R449): the host's move, one CPU step, the device cycles it pays for.
-/
namespace Sys2Proof.Machine

/-- One system step, with the host's move before it (60_exceptions R449, R451, notes/assumptions 8). -/
def step (s : State) : Host.Outcome State Fault Refusal :=
  match s.takeHostInput.cpuStep with
  | .next t => .next t.runDevices
  | .fault r => .fault r
  | .refused r => .refused r

/-- The state whose next step runs the instruction of a word of spec/opcode_table.json, placed at PC from outside the machine
(notes/assumptions 3, 12, 18). -/
def State.withFetchWord (s : State) (nbits w : Nat) : State := (s.pokeBytes s.cpu.pc (tableBytes nbits w)).readyToFetch

end Sys2Proof.Machine
end

