-- ==== Sys2Proof/Machine/Load.lean ====
section
/-!
DEFINITION. The host's load: the cartridge configuration from the header, the load-time failures, the battery image
(21_cartridge R141, 60_exceptions R451, 70_reset_and_hazards R611, R616).
-/
namespace Sys2Proof.Machine

/-- An image supplied by the host: its bytes by index, and how many there are. -/
structure Image where
  bytes : Memory
  size : Nat
  deriving DecidableEq, Repr

/-- What header byte 0x0147 says: the variant, whether there is RAM, whether there is a battery. -/
structure CartType where
  variant : CartVariant
  hasRam : Bool
  battery : Bool
  deriving DecidableEq, Repr

/-- The cartridge type of header byte 0x0147, none for an unsupported one (21_cartridge R141). -/
def cartType (t : Byte) : Option CartType :=
  match t.toNat with
  | 0x00 => some { variant := .noController, hasRam := false, battery := false }
  | 0x08 => some { variant := .noController, hasRam := true, battery := false }
  | 0x09 => some { variant := .noController, hasRam := true, battery := true }
  | 0x01 => some { variant := .mbc1, hasRam := false, battery := false }
  | 0x02 => some { variant := .mbc1, hasRam := true, battery := false }
  | 0x03 => some { variant := .mbc1, hasRam := true, battery := true }
  | 0x05 => some { variant := .mbc2, hasRam := true, battery := false }
  | 0x06 => some { variant := .mbc2, hasRam := true, battery := true }
  | 0x0F => some { variant := .mbc3, hasRam := false, battery := true }
  | 0x10 => some { variant := .mbc3, hasRam := true, battery := true }
  | 0x11 => some { variant := .mbc3, hasRam := false, battery := false }
  | 0x12 => some { variant := .mbc3, hasRam := true, battery := false }
  | 0x13 => some { variant := .mbc3, hasRam := true, battery := true }
  | 0x19 => some { variant := .mbc5, hasRam := false, battery := false }
  | 0x1A => some { variant := .mbc5, hasRam := true, battery := false }
  | 0x1B => some { variant := .mbc5, hasRam := true, battery := true }
  | 0x1C => some { variant := .mbc5, hasRam := false, battery := false }
  | 0x1D => some { variant := .mbc5, hasRam := true, battery := false }
  | 0x1E => some { variant := .mbc5, hasRam := true, battery := true }
  | _ => none

/-- The ROM bank count of header byte 0x0148 (21_cartridge R141). -/
def headerRomBanks (n : Byte) : Option Nat := if n.toNat ≤ 8 then some (2 <<< n.toNat) else none

/-- The RAM size of header byte 0x0149 (21_cartridge R141). -/
def headerRamSize (n : Byte) : Option Nat :=
  match n.toNat with
  | 0 => some 0
  | 1 => some 2048
  | 2 => some 8192
  | 3 => some 32768
  | 4 => some 131072
  | 5 => some 65536
  | _ => none

/-- The RAM size of a cartridge type: MBC2 has 512 cells built in, a type without RAM has none (21_cartridge R140, R141). -/
def CartType.ramSize (t : CartType) (n : Byte) : Option Nat :=
  match t.variant, t.hasRam with
  | .mbc2, _ => some 512
  | _, false => some 0
  | _, true => headerRamSize n

/-- The cartridge configuration of an image, or the load-time failure (21_cartridge R141, notes/assumptions 22). -/
def Image.cart (rom : Image) : Except Fault CartConfig :=
  if rom.size < 0x8000 then .error .malformedRom
  else
    match cartType (Memory.read rom.bytes 0x0147) with
    | none => .error .unsupportedController
    | some t =>
      match headerRomBanks (Memory.read rom.bytes 0x0148), t.ramSize (Memory.read rom.bytes 0x0149) with
      | some banks, some ram =>
        if rom.size < banks * 0x4000 then .error .malformedRom
        else .ok { variant := t.variant, romBanks := banks, ramSize := ram, battery := t.battery }
      | _, _ => .error .malformedRom

/-- The mode decision D2 suggests from header byte 0x0143 (00_scope R3). -/
def Image.suggestedMode (rom : Image) : HwMode := if (Memory.read rom.bytes 0x0143).getLsbD 7 then .cgb else .dmg

/-- The battery image if one of exactly the RAM's size was supplied (70_reset_and_hazards R616). -/
def usableBattery (ramSize : Nat) (battery : Option Image) : Option Image :=
  match battery with
  | some b => if b.size = ramSize then some b else none
  | none => none

/-- A run that starts: its first state, and whether a persistence failure is reported (70_reset_and_hazards R616). -/
structure Loaded where
  state : State
  batteryFailure : Bool
  deriving DecidableEq, Repr

/-- The start of a run: a load-time failure, or the reset state of the cartridge with the battery image in its RAM
(70_reset_and_hazards R611, R616). -/
def load (rom : Image) (mode : HwMode) (mode3Len : Nat) (apuRead : List ApuReadEntry) (battery : Option Image)
    (d : InitialData) : Except Fault Loaded :=
  match rom.cart with
  | .error r => .error r
  | .ok cart =>
    let cfg := { hwMode := mode, mode3Len := mode3Len, cart := cart, rom := rom.bytes, apuRead := apuRead }
    match usableBattery cart.ramSize battery with
    | some b => .ok { state := State.resetFor cfg { d with cartRam := b.bytes }, batteryFailure := false }
    | none => .ok { state := State.resetFor cfg d, batteryFailure := battery.isSome }

end Sys2Proof.Machine
end

