-- ==== Sys2Proof/Safety.lean ====
section
/-!
DEFINITION. The terms claims use: a step that answers; the frames, which say what an instruction leaves unchanged; the invariants,
which rule out the states no run reaches, each the conjunction of the ranges the spec gives to the fields it names.
-/
namespace Sys2Proof.Machine

/-- A step that answers a next state. -/
def Result.answers (r : Result) : Prop := ∃ t, r = .next t

/-! Frames. -/

/-- The CPU control state (10_state R36 to R41) is unchanged. -/
def State.controlKept (s t : State) : Prop :=
  t.cpu.ime = s.cpu.ime ∧ t.cpu.imePending = s.cpu.imePending ∧ t.cpu.runMode = s.cpu.runMode ∧
    t.cpu.haltBug = s.cpu.haltBug ∧ t.cpu.locked = s.cpu.locked ∧ t.cpu.doubleSpeed = s.cpu.doubleSpeed ∧
    t.cpu.speedPrepare = s.cpu.speedPrepare

/-- Every 8-bit register but those listed is unchanged. -/
def State.regsKept (s t : State) (l : List Reg8) : Prop := ∀ r, r ∉ l → t.getReg r = s.getReg r

/-- F, SP and PC are unchanged. -/
def State.flagsSpPcKept (s t : State) : Prop := t.cpu.f = s.cpu.f ∧ t.cpu.sp = s.cpu.sp ∧ t.cpu.pc = s.cpu.pc

/-- SP and PC are unchanged. -/
def State.spPcKept (s t : State) : Prop := t.cpu.sp = s.cpu.sp ∧ t.cpu.pc = s.cpu.pc

/-- Everything outside the CPU is unchanged: the configuration, the interrupt latches, every device register, every memory. -/
def State.outsideKept (s t : State) : Prop := t = { s with cpu := t.cpu }

/-- Every byte of the address space reads as before. -/
def State.bytesKept (s t : State) : Prop := ∀ a, t.busRead a = s.busRead a

/-- The frame of an instruction that touches registers alone: it reports `cost`, keeps the control state and everything outside
the CPU, and every byte of the address space reads as before. -/
def State.registerFrame (s t : State) (cost : Nat) : Prop :=
  t.cpu.cost = cost ∧ s.controlKept t ∧ s.outsideKept t ∧ s.bytesKept t

/-- A place whose write has no effect beyond the byte stored there (20_memory R101): not a bank-controller address, not
cartridge RAM, not an I/O register. -/
def Place.plain : Place → Bool
  | .rom _ | .cartRam _ | .io _ => false
  | .vram _ | .wram _ | .oam _ | .unusable | .unmapped | .hram _ | .ie => true

/-- Whether a CPU write of a place is stored there as it is: RAM that is not locked, and IE (20_memory R86, R92, R93, R95). -/
def State.stores (s : State) (p : Place) : Bool :=
  match p with
  | .wram _ | .hram _ | .ie => true
  | .vram _ => !s.vramLocked
  | .oam _ => !s.oamLocked
  | .rom _ | .cartRam _ | .unusable | .io _ | .unmapped => false

/-- The control state a store keeps: all of it but the prepare bit, which a write to KEY1 changes. -/
def State.storeControlKept (s t : State) : Prop :=
  t.cpu.ime = s.cpu.ime ∧ t.cpu.imePending = s.cpu.imePending ∧ t.cpu.runMode = s.cpu.runMode ∧
    t.cpu.haltBug = s.cpu.haltBug ∧ t.cpu.locked = s.cpu.locked ∧ t.cpu.doubleSpeed = s.cpu.doubleSpeed

/-- The frame of an instruction that stores the byte `v` at address `a`: outside the CPU it does what that one bus write does; where
the address is plain every address of another place reads as before; and where the place stores, the byte reads back. -/
def State.storeFrame (s t : State) (a : Word) (v : Byte) (cost : Nat) : Prop :=
  t.cpu.cost = cost ∧ s.storeControlKept t ∧ t.cpu.speedPrepare = (s.busWrite a v).cpu.speedPrepare ∧
    t = { s.busWrite a v with cpu := t.cpu } ∧
    ((s.place a).plain = true → ∀ b, s.place b ≠ s.place a → t.busRead b = s.busRead b) ∧
    (s.stores (s.place a) = true → t.busRead a = v)

/-- The frame of an instruction that stores `v` at `a` and then `w` at `b`: outside the CPU it does what those two bus writes do;
where both addresses are plain every address of a third place reads as before, and what is stored reads back. -/
def State.twoStoreFrame (s t : State) (a : Word) (v : Byte) (b : Word) (w : Byte) (cost : Nat) : Prop :=
  t.cpu.cost = cost ∧ s.storeControlKept t ∧ t.cpu.speedPrepare = ((s.busWrite a v).busWrite b w).cpu.speedPrepare ∧
    t = { (s.busWrite a v).busWrite b w with cpu := t.cpu } ∧
    ((s.place a).plain = true → (s.place b).plain = true →
      (∀ x, s.place x ≠ s.place a → s.place x ≠ s.place b → t.busRead x = s.busRead x) ∧
        (s.stores (s.place a) = true → s.place a ≠ s.place b → t.busRead a = v) ∧
        (s.stores (s.place b) = true → t.busRead b = w))

/-- The flags of a state are as said, and F's low nibble is zero (10_state R32, R33). -/
def State.flagsAre (t : State) (z n h c : Prop) : Prop :=
  (t.cpu.flagZ = true ↔ z) ∧ (t.cpu.flagN = true ↔ n) ∧ (t.cpu.flagH = true ↔ h) ∧ (t.cpu.flagC = true ↔ c) ∧
    t.cpu.f &&& 0x0F#8 = 0#8

/-- `i` loads A from the address `addr`, leaves `hl` in HL and keeps all else. -/
def State.loadsA (s : State) (i : Instr) (addr hl : Word) (cost : Nat) : Prop :=
  ∃ t, exec i s = .next t ∧ t.cpu.a = s.busRead addr ∧ t.hl = hl ∧ s.regsKept t [.a, .h, .l] ∧ s.flagsSpPcKept t ∧
    s.registerFrame t cost

/-- `i` stores the byte `v` at the address `addr`, leaves `hl` in HL and keeps all else. -/
def State.storesByte (s : State) (i : Instr) (addr : Word) (v : Byte) (hl : Word) (cost : Nat) : Prop :=
  ∃ t, exec i s = .next t ∧ t.hl = hl ∧ s.regsKept t [.h, .l] ∧ s.flagsSpPcKept t ∧ s.storeFrame t addr v cost

/-! The codes of operands in an encoding. -/

/-- The code of a register (30_encoding R182). -/
def regCode (r : Reg8) : Byte := r.pick 0 1 2 3 4 5 7

/-- The code of a pair (30_encoding R183). -/
def pairCode (p : Pair) : Byte := p.pick 0 1 2 3

/-- The code of a stack pair (30_encoding R184). -/
def stackPairCode (q : StackPair) : Byte := q.pick 0 1 2 3

/-- The code of a condition (30_encoding R185). -/
def condCode (cc : Cond) : Byte := cc.pick 0 1 2 3

/-- The code of an ALU operation (30_encoding R186). -/
def aluCode (o : AluOp) : Byte := o.pick 0 1 2 3 4 5 6 7

/-- The code of a rotate or shift (30_encoding R187). -/
def shiftCode (o : ShiftOp) : Byte := o.pick 0 1 2 3 4 5 6 7

/-- The ALU instruction of an operation and an operand. -/
def aluInstr (o : AluOp) (x : AluSrc) : Instr :=
  match x with
  | .reg r => .aluReg o r
  | .mHL => .aluMem o
  | .imm n => .aluN o n

/-- The bytes of an ALU instruction (42_alu8 R281 to R304). -/
def aluBytes (o : AluOp) (x : AluSrc) : List Byte :=
  match x with
  | .reg r => [0x80#8 + 8 * aluCode o + regCode r]
  | .mHL => [0x86#8 + 8 * aluCode o]
  | .imm n => [0xC6#8 + 8 * aluCode o, n]

/-- The operand of an ALU instruction as the rules name it: `x[s]`, `MemRead(HL, 1)` or the immediate (42_alu8 R280). -/
def State.aluOperand (s : State) (x : AluSrc) : Byte :=
  match x with
  | .reg r => s.getReg r
  | .mHL => s.busRead s.hl
  | .imm n => n

/-- The cost of an ALU instruction (42_alu8 R281 to R304). -/
def aluCycles (x : AluSrc) : Nat :=
  match x with
  | .reg _ => 4
  | .mHL => 8
  | .imm _ => 8

/-- The result of a rotate or shift in the terms of 44_rotate_shift section 3, with `c` the old F.C as a number. -/
def shiftResult (o : ShiftOp) (v : Byte) (c : Nat) : Nat :=
  match o with
  | .rlc => (2 * v.toNat + v.toNat / 128) % 256
  | .rrc => v.toNat / 2 + 128 * (v.toNat % 2)
  | .rl => (2 * v.toNat + c) % 256
  | .rr => v.toNat / 2 + 128 * c
  | .sla => 2 * v.toNat % 256
  | .sra => v.toNat / 2 + 128 * (v.toNat / 128)
  | .swap => 16 * (v.toNat % 16) + v.toNat / 16
  | .srl => v.toNat / 2

/-- The bit a rotate or shift puts into F.C: the one shifted out, none for SWAP (44_rotate_shift section 3). -/
def shiftedOut (o : ShiftOp) (v : Byte) : Prop :=
  match o with
  | .rlc | .rl | .sla => v.toNat / 128 = 1
  | .rrc | .rr | .sra | .srl => v.toNat % 2 = 1
  | .swap => False

/-- `cond(cc)` on F (30_encoding R185, 46_control R380). -/
def State.condHolds (s : State) (cc : Cond) : Prop :=
  match cc with
  | .nz => s.cpu.f.getLsbD 7 = false
  | .z => s.cpu.f.getLsbD 7 = true
  | .nc => s.cpu.f.getLsbD 4 = false
  | .c => s.cpu.f.getLsbD 4 = true

/-! Invariants. -/

/-- The CPU's invariant: F's low nibble is zero (10_state R33), a CPU that is not running has no HALT bug armed and is not
locked (47_system R412, R413, R417), the two speed bits are 0 in DMG mode (10_state R41), the reported cost is a multiple of
4 of at most 24 (30_encoding R200, 60_exceptions R449). -/
structure State.CpuOk (s : State) : Prop where
  lowNibble : s.cpu.f &&& 0x0F#8 = 0#8
  idleMode : s.cpu.runMode ≠ .running → s.cpu.haltBug = false ∧ s.cpu.locked = false
  dmgSpeed : s.cfg.hwMode = .dmg → s.cpu.doubleSpeed = false ∧ s.cpu.speedPrepare = false
  cost : s.cpu.cost % 4 = 0 ∧ s.cpu.cost ≤ 24

/-- Every index a region lists is below its size. -/
def Memory.within (m : Memory) (size : Nat) : Prop := ∀ c ∈ m, c.1 < size

/-- The size of VRAM: one bank of 8 KiB in DMG mode, two in CGB mode (20_memory R83). -/
def Config.vramSize (cfg : Config) : Nat :=
  match cfg.hwMode with
  | .dmg => 0x2000
  | .cgb => 0x4000

/-- The size of WRAM: two banks of 4 KiB in DMG mode, eight in CGB mode (20_memory R86). -/
def Config.wramSize (cfg : Config) : Nat :=
  match cfg.hwMode with
  | .dmg => 0x2000
  | .cgb => 0x8000

/-- The size of cartridge RAM: the configuration's, or the 512 cells of MBC2 (21_cartridge R140, R149). -/
def CartConfig.ramCells (cart : CartConfig) : Nat :=
  match cart.variant with
  | .mbc2 => 512
  | .noController | .mbc1 | .mbc3 | .mbc5 => cart.ramSize

/-- The memories' invariant: every region is in canonical form and within its size (20_memory R83, R86, R89, R92, 62_ppu R507,
R508, 63_io_devices R575, 21_cartridge R140, R149). -/
structure State.MemoriesOk (s : State) : Prop where
  vram : s.vram.wf ∧ Memory.within s.vram (Config.vramSize s.cfg)
  wram : s.wram.wf ∧ Memory.within s.wram (Config.wramSize s.cfg)
  oam : s.oam.wf ∧ Memory.within s.oam 160
  hram : s.hram.wf ∧ Memory.within s.hram 127
  apu : s.apu.wf ∧ Memory.within s.apu 0xFF40
  bgPal : s.ppu.bgPal.wf ∧ Memory.within s.ppu.bgPal 64
  objPal : s.ppu.objPal.wf ∧ Memory.within s.ppu.objPal 64
  cartRam : s.cart.ram.wf ∧ Memory.within s.cart.ram (CartConfig.ramCells s.cfg.cart)

/-- A frame of 144 lines of 160 pixels (62_ppu R509). -/
def Frame.shaped (f : Frame) : Prop := f.length = 144 ∧ ∀ l ∈ f, l.length = 160

/-- The PPU's invariant: the ranges of 62_ppu R509, and the position with the LCD off (62_ppu R519). -/
structure State.PpuOk (s : State) : Prop where
  line : s.ppu.ly < 154
  dot : s.ppu.dot < 456
  lcdOff : s.ppu.lcdOn = false → s.ppu.ly = 0 ∧ s.ppu.dot = 0 ∧ s.ppu.statLine = false
  sprites : s.ppu.lineSprites.length ≤ 10 ∧ ∀ i ∈ s.ppu.lineSprites, i < 40
  frame : s.ppu.fb.shaped
  handedOff : ∀ f ∈ s.host.frames, Frame.shaped f
  window : s.ppu.winLine ≤ 144 ∧
    (s.ppu.lcdOn = true → s.ppu.winLine ≤ s.ppu.ly + (if 80 ≤ s.ppu.dot then 1 else 0))

/-- The invariant of the other devices: the reload countdown (61_timer R480), the serial countdown and its control bits
(63_io_devices R573, R574), the HDMA addresses (63_io_devices R577), the joypad lines (63_io_devices R571). -/
structure State.DevicesOk (s : State) : Prop where
  reload : s.timer.reloadDelay ≤ 4
  serialCount : s.serial.count ≤ 4096
  serialBusy : 0 < s.serial.count → s.serial.sc.getLsbD 7 = true ∧ s.serial.sc.getLsbD 0 = true
  serialBits : s.serial.sc &&& (match s.cfg.hwMode with | .dmg => 0x7E#8 | .cgb => 0x7C#8) = 0#8
  hdmaAligned : s.hdma.src.extractLsb' 0 4 = 0#4 ∧ s.hdma.dst.extractLsb' 0 4 = 0#4
  joypad : s.joypad.joyLines = s.lines

/-- The bank registers hold values their variant can hold (21_cartridge R145, R148, R150, R152). -/
def State.CartOk (s : State) : Prop :=
  match s.cfg.cart.variant with
  | .noController => True
  | .mbc1 => s.cart.romBank.toNat < 32 ∧ s.cart.romBank ≠ 0#9 ∧ s.cart.ramBank.toNat < 4
  | .mbc2 => s.cart.romBank.toNat < 16 ∧ s.cart.romBank ≠ 0#9 ∧ ∀ c ∈ s.cart.ram, c.2.toNat < 16
  | .mbc3 => s.cart.romBank.toNat < 128 ∧ s.cart.romBank ≠ 0#9
  | .mbc5 => s.cart.ramBank.toNat < 16

/-- In DMG mode the registers of CGB mode (KEY1, VBK, SVBK, BCPS, OCPS, HDMA1 to HDMA5) hold their reset values
(63_io_devices R582, 70_reset_and_hazards R614). -/
def State.DmgQuiet (s : State) : Prop :=
  s.cfg.hwMode = .dmg →
    s.cpu.doubleSpeed = false ∧ s.cpu.speedPrepare = false ∧ s.vbk = 0#1 ∧ s.svbk = 0#3 ∧
      s.ppu.bcps = { autoInc := false, index := 0 } ∧ s.ppu.ocps = { autoInc := false, index := 0 } ∧
      s.hdma = { src := 0, dst := 0, len := 0x7F, active := false }

/-! What a DMA block does. -/

/-- The HDMA addresses are multiples of 16 (63_io_devices R577). -/
def Hdma.aligned (h : Hdma) : Prop := h.src.extractLsb' 0 4 = 0#4 ∧ h.dst.extractLsb' 0 4 = 0#4

/-- `t`'s VRAM is that of `s` but for 16 bytes from the destination on, in the bank VBK selects, which are what a DMA read of `s`
gives at the source address and the fifteen after it; both addresses have moved on by 16 (63_io_devices R577). -/
def State.copiedBlock (s t : State) : Prop :=
  (∀ i, i < 16 →
    Memory.read t.vram (s.vbk.toNat * 0x2000 + s.hdma.dst.toNat + i) = s.dmaRead (s.hdma.src + BitVec.ofNat 16 i)) ∧
  (∀ k, k < s.vbk.toNat * 0x2000 + s.hdma.dst.toNat ∨ s.vbk.toNat * 0x2000 + s.hdma.dst.toNat + 16 ≤ k →
    Memory.read t.vram k = Memory.read s.vram k) ∧
  t.hdma.src = s.hdma.src + 16 ∧ t.hdma.dst = s.hdma.dst + 16

end Sys2Proof.Machine
end

