-- ==== Sys2Proof/WellFormed.lean ====
section
/-!
DEFINITION. Which terms of Instr are instructions of their own. Every operand value of every format is legal (30_encoding R180,
R188 to R190, R195), so the one check concerns `PREFIX CB`.
-/
namespace Sys2Proof

/-- Whether a term stands for words of its own. `PREFIX CB` with its sub-opcode is the CB row's instruction (30_encoding R193,
47_system R416), so its term is no second name for those words: the decoder never gives it and the encoder is not asked for
it (notes/assumptions 11). -/
def Instr.wellFormed : Instr → Bool
  | .prefixCB _ => false
  | _ => true

end Sys2Proof
end

