-- ==== Sys2Proof/Certificates/Slice0/Obligations.lean ====
section
/-!
DEFINITION. The statements for the provers. Each docstring names the rules of spec/ it formalises. A statement about an instruction
runs `exec` in the state after the fetch, where PC is `PC_next` (40_load8 R220, 46_control R380); `stepRunsDecodedInstruction`
ties that to the step.
-/
section
open Sys2Proof Sys2Proof.Machine

/-! ## Encoding -/

/-- Decoding the bytes of a well-formed instruction gives it back and leaves what follows it (30_encoding R180, R195). -/
def Obligations.decodeOfEncode : Prop :=
  ∀ (i : Instr) (rest : List Byte), i.wellFormed = true → decode (encode i ++ rest) = .ok (i, rest)

/-- The decoder accepts nothing but encodings: what it reads is well-formed, and its bytes are the encoder's
(30_encoding R180, R195). -/
def Obligations.encodeOfDecode : Prop :=
  ∀ (bs : List Byte) (i : Instr) (rest : List Byte),
    decode bs = .ok (i, rest) → i.wellFormed = true ∧ bs = encode i ++ rest

/-- Three bytes always hold an instruction of one, two or three bytes, and the length is decided by the first byte
(30_encoding R180, R195). -/
def Obligations.decodeTotalAndLengthByOpcode : Prop :=
  (∀ (b0 b1 b2 : Byte) (r : List Byte), ∃ i rest, decode (b0 :: b1 :: b2 :: r) = .ok (i, rest) ∧
      1 ≤ i.length ∧ i.length ≤ 3 ∧ rest.length + i.length = r.length + 3) ∧
    (∀ (i j : Instr) (o : Byte) (r q : List Byte), encode i = o :: r → encode j = o :: q → i.length = j.length)

/-- Words written out from the spec's encodings decode to the instructions they stand for: one for each family
(30_encoding R198, R199, and the Encoding line of each rule). -/
def Obligations.decodeSampleWords : Prop :=
  decode [0x41] = .ok (.ld_B_C, []) ∧ decode [0x3E, 0x5A] = .ok (.ld_A_n 0x5A, []) ∧
    decode [0xEA, 0x80, 0xFF] = .ok (.ld_mnn_A 0xFF80, []) ∧ decode [0x31, 0xFE, 0xFF] = .ok (.ld_SP_nn 0xFFFE, []) ∧
    decode [0x9E] = .ok (.sbc_A_mHL, []) ∧ decode [0x39] = .ok (.add_HL_SP, []) ∧ decode [0xCB, 0x37] = .ok (.swap_A, []) ∧
    decode [0xCB, 0x9E] = .ok (.res_3_mHL, []) ∧ decode [0x20, 0xFC] = .ok (.jr_NZ_e 0xFC, []) ∧
    decode [0xEF] = .ok (.rst_28, []) ∧ decode [0x76] = .ok (.halt, []) ∧ decode [0x10, 0x00] = .ok (.stop 0x00, []) ∧
    decode [0xDD] = .ok (.illegal_DD, [])

/-! ## Fetch and step -/

/-- Where the CPU runs, is not locked, takes no interrupt and the bytes at PC decode to `i`, the system step is `exec
i` in the state whose PC is past the instruction, then the end of the EI delay, then the device cycles its cost pays
for, halved in double speed (60_exceptions R437, R449, R450). -/
def Obligations.stepRunsDecodedInstruction : Prop :=
  ∀ (s : State) (i : Instr) (rest : List Byte),
    s.takeHostInput.cpu.locked = false → s.takeHostInput.cpu.runMode = .running →
    s.takeHostInput.interruptDue = none → s.takeHostInput.cpu.haltBug = false →
    decode [s.takeHostInput.busRead s.takeHostInput.cpu.pc, s.takeHostInput.busRead (s.takeHostInput.cpu.pc + 1),
      s.takeHostInput.busRead (s.takeHostInput.cpu.pc + 2)] = .ok (i, rest) →
    ∀ t, exec i { s.takeHostInput with cpu.pc := s.takeHostInput.cpu.pc + BitVec.ofNat 16 i.length } = .next t →
      step s = .next
        ((t.finishEi s.takeHostInput.cpu.imePending).deviceCycles (if t.cpu.doubleSpeed then t.cpu.cost / 2 else t.cpu.cost))

/-- The HALT bug: the opcode at PC is read, PC is not incremented, so the same byte is read again as the next byte of
the stream, and the latch is cleared (60_exceptions R439, 47_system R412). -/
def Obligations.haltBugFetch : Prop :=
  ∀ (s : State) (i : Instr) (rest : List Byte),
    s.cpu.locked = false → s.cpu.runMode = .running → s.interruptDue = none → s.cpu.haltBug = true →
    decode [s.busRead s.cpu.pc, s.busRead s.cpu.pc, s.busRead (s.cpu.pc + 1)] = .ok (i, rest) →
    ∀ t, exec i { s with cpu.pc := s.cpu.pc + BitVec.ofNat 16 (i.length - 1), cpu.haltBug := false } = .next t →
      s.cpuStep = .next (t.finishEi s.cpu.imePending)

/-- `PREFIX CB` with sub-opcode `c` answers what the CB instruction of `c` answers, for all 256 sub-opcodes (47_system
R416, 30_encoding R193). -/
def Obligations.prefixRunsCbInstruction : Prop :=
  ∀ (s : State) (c : Byte),
    decode [0xCB#8, c] = .ok (cbInstr c, []) ∧ ∃ t, exec (.prefixCB c) s = .next t ∧ exec (cbInstr c) s = .next t

/-! ## 8-bit loads -/

/-- `LD r,r'` and `LD r,n` (40_load8 R221, R222). -/
def Obligations.loadRegisterOrImmediate : Prop :=
  ∀ (s : State) (dst : Reg8),
    (∀ src, encode (.ldRegReg dst src) = [0x40#8 + 8 * regCode dst + regCode src] ∧
      ∃ t, exec (.ldRegReg dst src) s = .next t ∧ t.getReg dst = s.getReg src ∧ s.regsKept t [dst] ∧
        s.flagsSpPcKept t ∧ s.registerFrame t 4) ∧
    (∀ n, encode (.ldRegN dst n) = [0x06#8 + 8 * regCode dst, n] ∧
      ∃ t, exec (.ldRegN dst n) s = .next t ∧ t.getReg dst = n ∧ s.regsKept t [dst] ∧ s.flagsSpPcKept t ∧
        s.registerFrame t 8)

/-- The loads from memory: the byte at the address the rule names, HL stepped by the `(HL+)` and `(HL-)` forms alone
(40_load8 R223, R226, R227, R230, R232, R234, R236, R238). -/
def Obligations.loadFromMemory : Prop :=
  ∀ (s : State),
    (∀ dst, encode (.ldRegMem dst) = [0x46#8 + 8 * regCode dst] ∧
      ∃ t, exec (.ldRegMem dst) s = .next t ∧ t.getReg dst = s.busRead s.hl ∧ s.regsKept t [dst] ∧
        s.flagsSpPcKept t ∧ s.registerFrame t 8) ∧
    (encode .ld_A_mBC = [0x0A] ∧ s.loadsA .ld_A_mBC (s.getPair .bc) s.hl 8) ∧
    (encode .ld_A_mDE = [0x1A] ∧ s.loadsA .ld_A_mDE (s.getPair .de) s.hl 8) ∧
    (∀ nn, encode (.ld_A_mnn nn) = [0xFA, loByte nn, hiByte nn] ∧ s.loadsA (.ld_A_mnn nn) nn s.hl 16) ∧
    (encode .ldh_A_mC = [0xF2] ∧ s.loadsA .ldh_A_mC (0xFF00#16 + zext16 s.cpu.c) s.hl 8) ∧
    (∀ n, encode (.ldh_A_mn n) = [0xF0, n] ∧ s.loadsA (.ldh_A_mn n) (0xFF00#16 + zext16 n) s.hl 12) ∧
    (encode .ld_A_mHLD = [0x3A] ∧ s.loadsA .ld_A_mHLD s.hl (s.hl - 1) 8) ∧
    (encode .ld_A_mHLI = [0x2A] ∧ s.loadsA .ld_A_mHLI s.hl (s.hl + 1) 8)

/-- The stores to memory: the byte is written at the address the rule names, and nowhere else (40_load8 R224, R225,
R228, R229, R231, R233, R235, R237, R239). -/
def Obligations.storeToMemory : Prop :=
  ∀ (s : State),
    (∀ src, encode (.ldMemReg src) = [0x70#8 + regCode src] ∧
      s.storesByte (.ldMemReg src) s.hl (s.getReg src) s.hl 8) ∧
    (∀ n, encode (.ld_mHL_n n) = [0x36, n] ∧ s.storesByte (.ld_mHL_n n) s.hl n s.hl 12) ∧
    (encode .ld_mBC_A = [0x02] ∧ s.storesByte .ld_mBC_A (s.getPair .bc) s.cpu.a s.hl 8) ∧
    (encode .ld_mDE_A = [0x12] ∧ s.storesByte .ld_mDE_A (s.getPair .de) s.cpu.a s.hl 8) ∧
    (∀ nn, encode (.ld_mnn_A nn) = [0xEA, loByte nn, hiByte nn] ∧ s.storesByte (.ld_mnn_A nn) nn s.cpu.a s.hl 16) ∧
    (encode .ldh_mC_A = [0xE2] ∧ s.storesByte .ldh_mC_A (0xFF00#16 + zext16 s.cpu.c) s.cpu.a s.hl 8) ∧
    (∀ n, encode (.ldh_mn_A n) = [0xE0, n] ∧ s.storesByte (.ldh_mn_A n) (0xFF00#16 + zext16 n) s.cpu.a s.hl 12) ∧
    (encode .ld_mHLD_A = [0x32] ∧ s.storesByte .ld_mHLD_A s.hl s.cpu.a (s.hl - 1) 8) ∧
    (encode .ld_mHLI_A = [0x22] ∧ s.storesByte .ld_mHLI_A s.hl s.cpu.a (s.hl + 1) 8)

/-! ## 16-bit loads and the stack -/

/-- `LD rr,nn`, `LD SP,HL`, and `LD (nn),SP` with the low byte at nn and the high byte at nn + 1 (41_load16_stack
R261, R262, R263). -/
def Obligations.loadPairAndStoreStackPointer : Prop :=
  (∀ (s : State),
    (∀ p nn, encode (.ldPairNn p nn) = [0x01#8 + 16 * pairCode p, loByte nn, hiByte nn] ∧
      ∃ t, exec (.ldPairNn p nn) s = .next t ∧ t.getPair p = nn ∧ (∀ q, q ≠ p → t.getPair q = s.getPair q) ∧
        t.cpu.a = s.cpu.a ∧ t.cpu.f = s.cpu.f ∧ t.cpu.pc = s.cpu.pc ∧ s.registerFrame t 12) ∧
    (encode .ld_SP_HL = [0xF9] ∧
      ∃ t, exec .ld_SP_HL s = .next t ∧ t.cpu.sp = s.hl ∧ s.regsKept t [] ∧ t.cpu.f = s.cpu.f ∧
        t.cpu.pc = s.cpu.pc ∧ s.registerFrame t 8)) ∧
  (∀ (s : State) (nn : Word), encode (.ld_mnn_SP nn) = [0x08, loByte nn, hiByte nn] ∧
    ∃ t, exec (.ld_mnn_SP nn) s = .next t ∧ s.regsKept t [] ∧ s.flagsSpPcKept t ∧
      s.twoStoreFrame t nn (loByte s.cpu.sp) (nn + 1) (hiByte s.cpu.sp) 20)

/-- `LD HL,SP+e` and `ADD SP,e`: the signed displacement is added, H and C come from the unsigned additions of the raw
byte, Z and N are 0 (41_load16_stack R264, 43_alu16 R334). -/
def Obligations.stackPointerPlusDisplacement : Prop :=
  ∀ (s : State) (e : Byte),
    (encode (.ld_HL_SPe e) = [0xF8, e] ∧
      ∃ t, exec (.ld_HL_SPe e) s = .next t ∧ (t.hl.toNat : Int) = (s.cpu.sp.toNat + e.toInt) % 65536 ∧
        t.flagsAre False False (15 < s.cpu.sp.toNat % 16 + e.toNat % 16) (255 < s.cpu.sp.toNat % 256 + e.toNat) ∧
        s.regsKept t [.h, .l] ∧ s.spPcKept t ∧ s.registerFrame t 12) ∧
    (encode (.add_SP_e e) = [0xE8, e] ∧
      ∃ t, exec (.add_SP_e e) s = .next t ∧ (t.cpu.sp.toNat : Int) = (s.cpu.sp.toNat + e.toInt) % 65536 ∧
        t.flagsAre False False (15 < s.cpu.sp.toNat % 16 + e.toNat % 16) (255 < s.cpu.sp.toNat % 256 + e.toNat) ∧
        s.regsKept t [] ∧ t.cpu.pc = s.cpu.pc ∧ s.registerFrame t 16)

/-- `PUSH qq`: the high byte at SP - 1, the low byte at SP - 2, SP falls by 2. `POP qq`: the low byte from SP, the
high byte from SP + 1, SP rises by 2; `POP AF` clears bits 3:0 of what it puts into F (41_load16_stack R265, R266,
R267). -/
def Obligations.pushAndPopPair : Prop :=
  (∀ (s : State) (q : StackPair), encode (.push q) = [0xC5#8 + 16 * stackPairCode q] ∧
    ∃ t, exec (.push q) s = .next t ∧ t.cpu.sp = s.cpu.sp - 2 ∧ s.regsKept t [] ∧ t.cpu.f = s.cpu.f ∧
      t.cpu.pc = s.cpu.pc ∧
      s.twoStoreFrame t (s.cpu.sp - 1) (hiByte (s.getStackPair q)) (s.cpu.sp - 2) (loByte (s.getStackPair q)) 16) ∧
  (∀ (s : State),
    (∀ q, q ≠ StackPair.af → encode (.pop q) = [0xC1#8 + 16 * stackPairCode q] ∧
      ∃ t, exec (.pop q) s = .next t ∧ t.getStackPair q = join (s.busRead (s.cpu.sp + 1)) (s.busRead s.cpu.sp) ∧
        (∀ p, p ≠ q → t.getStackPair p = s.getStackPair p) ∧ t.cpu.sp = s.cpu.sp + 2 ∧ t.cpu.f = s.cpu.f ∧
        t.cpu.pc = s.cpu.pc ∧ s.registerFrame t 12) ∧
    (encode .pop_AF = [0xF1] ∧
      ∃ t, exec .pop_AF s = .next t ∧ t.cpu.a = s.busRead (s.cpu.sp + 1) ∧ t.cpu.f = s.busRead s.cpu.sp &&& 0xF0#8 ∧
        s.regsKept t [.a] ∧ t.cpu.sp = s.cpu.sp + 2 ∧ t.cpu.pc = s.cpu.pc ∧ s.registerFrame t 12))

/-! ## 8-bit arithmetic and logic -/

/-- ADD and ADC with a register, `(HL)` or an immediate: the sum modulo 256, H out of bit 3, C out of bit 7, in
unbounded integers (42_alu8 R280 to R286). -/
def Obligations.addWithAndWithoutCarry : Prop :=
  ∀ (s : State) (x : AluSrc) (o : AluOp) (c : Nat),
    (o = .add ∧ c = 0) ∨ (o = .adc ∧ c = s.cpu.flagC.toNat) →
    encode (aluInstr o x) = aluBytes o x ∧
    ∃ t, exec (aluInstr o x) s = .next t ∧
      t.cpu.a.toNat = (s.cpu.a.toNat + (s.aluOperand x).toNat + c) % 256 ∧
      t.flagsAre (t.cpu.a.toNat = 0) False (15 < s.cpu.a.toNat % 16 + (s.aluOperand x).toNat % 16 + c)
        (255 < s.cpu.a.toNat + (s.aluOperand x).toNat + c) ∧
      s.regsKept t [.a] ∧ s.spPcKept t ∧ s.registerFrame t (aluCycles x)

/-- SUB, SBC and CP with a register, `(HL)` or an immediate: the difference modulo 256, which CP discards, the borrows
in H and C, in unbounded integers (42_alu8 R280, R287 to R292, R302 to R304). -/
def Obligations.subtractAndCompare : Prop :=
  ∀ (s : State) (x : AluSrc) (o : AluOp) (c : Nat),
    (o = .sub ∧ c = 0) ∨ (o = .sbc ∧ c = s.cpu.flagC.toNat) ∨ (o = .cp ∧ c = 0) →
    encode (aluInstr o x) = aluBytes o x ∧
    ∃ t, exec (aluInstr o x) s = .next t ∧
      (if o = .cp then t.cpu.a = s.cpu.a
        else (t.cpu.a.toNat : Int) = ((s.cpu.a.toNat : Int) - (s.aluOperand x).toNat - c) % 256) ∧
      t.flagsAre (((s.cpu.a.toNat : Int) - (s.aluOperand x).toNat - c) % 256 = 0) True
        (s.cpu.a.toNat % 16 < (s.aluOperand x).toNat % 16 + c) (s.cpu.a.toNat < (s.aluOperand x).toNat + c) ∧
      s.regsKept t [.a] ∧ s.spPcKept t ∧ s.registerFrame t (aluCycles x)

/-- AND, XOR and OR with a register, `(HL)` or an immediate, bit by bit; AND sets H (42_alu8 R293 to R301). -/
def Obligations.bitwiseLogic : Prop :=
  ∀ (s : State) (x : AluSrc) (o : AluOp), o = .and ∨ o = .xor ∨ o = .or →
    encode (aluInstr o x) = aluBytes o x ∧
    ∃ t, exec (aluInstr o x) s = .next t ∧
      (∀ k, k < 8 → t.cpu.a.getLsbD k =
        match o with
        | .and => s.cpu.a.getLsbD k && (s.aluOperand x).getLsbD k
        | .xor => s.cpu.a.getLsbD k != (s.aluOperand x).getLsbD k
        | _ => s.cpu.a.getLsbD k || (s.aluOperand x).getLsbD k) ∧
      t.flagsAre (t.cpu.a = 0#8) False (o = .and) False ∧
      s.regsKept t [.a] ∧ s.spPcKept t ∧ s.registerFrame t (aluCycles x)

/-- INC and DEC of a register and of the byte at HL, which is read and written back: one more or one less modulo 256,
C unchanged (42_alu8 R305 to R308). -/
def Obligations.incrementDecrementByte : Prop :=
  (∀ (s : State) (dst : Reg8),
    (encode (.incReg dst) = [0x04#8 + 8 * regCode dst] ∧
      ∃ t, exec (.incReg dst) s = .next t ∧ (t.getReg dst).toNat = ((s.getReg dst).toNat + 1) % 256 ∧
        t.flagsAre ((t.getReg dst).toNat = 0) False ((s.getReg dst).toNat % 16 = 15) (s.cpu.flagC = true) ∧
        s.regsKept t [dst] ∧ s.spPcKept t ∧ s.registerFrame t 4) ∧
    (encode (.decReg dst) = [0x05#8 + 8 * regCode dst] ∧
      ∃ t, exec (.decReg dst) s = .next t ∧ (t.getReg dst).toNat = ((s.getReg dst).toNat + 255) % 256 ∧
        t.flagsAre ((t.getReg dst).toNat = 0) True ((s.getReg dst).toNat % 16 = 0) (s.cpu.flagC = true) ∧
        s.regsKept t [dst] ∧ s.spPcKept t ∧ s.registerFrame t 4)) ∧
  (∀ (s : State),
    (encode .inc_mHL = [0x34] ∧
      ∃ t v, exec .inc_mHL s = .next t ∧ v.toNat = ((s.busRead s.hl).toNat + 1) % 256 ∧
        t.flagsAre (v.toNat = 0) False ((s.busRead s.hl).toNat % 16 = 15) (s.cpu.flagC = true) ∧
        s.regsKept t [] ∧ s.spPcKept t ∧ s.storeFrame t s.hl v 12) ∧
    (encode .dec_mHL = [0x35] ∧
      ∃ t v, exec .dec_mHL s = .next t ∧ v.toNat = ((s.busRead s.hl).toNat + 255) % 256 ∧
        t.flagsAre (v.toNat = 0) True ((s.busRead s.hl).toNat % 16 = 0) (s.cpu.flagC = true) ∧
        s.regsKept t [] ∧ s.spPcKept t ∧ s.storeFrame t s.hl v 12))

/-- DAA by its pseudocode, for every A and every flag combination (42_alu8 R309). -/
def Obligations.decimalAdjust : Prop :=
  ∀ (s : State), encode .daa = [0x27] ∧
    ∃ t, exec .daa s = .next t ∧
      (s.cpu.flagN = false →
        t.cpu.a.toNat = (s.cpu.a.toNat + (if s.cpu.flagC = true ∨ 0x99 < s.cpu.a.toNat then 0x60 else 0) +
          (if s.cpu.flagH = true ∨ 9 < s.cpu.a.toNat % 16 then 0x06 else 0)) % 256) ∧
      (s.cpu.flagN = true →
        (t.cpu.a.toNat : Int) = ((s.cpu.a.toNat : Int) - (if s.cpu.flagC = true then 0x60 else 0) -
          (if s.cpu.flagH = true then 0x06 else 0)) % 256) ∧
      t.flagsAre (t.cpu.a.toNat = 0) (s.cpu.flagN = true) False
        (s.cpu.flagC = true ∨ (s.cpu.flagN = false ∧ 0x99 < s.cpu.a.toNat)) ∧
      s.regsKept t [.a] ∧ s.spPcKept t ∧ s.registerFrame t 4

/-- What DAA is for: of two two-digit decimal numbers `x` and `y` held as BCD in A and B, `ADD A,B; DAA` gives the BCD
of their sum modulo 100 with C the decimal carry, and `SUB B; DAA` the BCD of their difference modulo 100 with C the
decimal borrow (42_alu8 R281, R287, R309). -/
def Obligations.decimalSumAndDifference : Prop :=
  ∀ (s : State) (x y : Nat), x < 100 → y < 100 →
    s.cpu.a = BitVec.ofNat 8 (x / 10 * 16 + x % 10) → s.cpu.b = BitVec.ofNat 8 (y / 10 * 16 + y % 10) →
    (∃ t u, exec .add_A_B s = .next t ∧ exec .daa t = .next u ∧
      u.cpu.a = BitVec.ofNat 8 ((x + y) % 100 / 10 * 16 + (x + y) % 10) ∧ (u.cpu.flagC = true ↔ 100 ≤ x + y)) ∧
    (∃ t u, exec .sub_B s = .next t ∧ exec .daa t = .next u ∧
      u.cpu.a = BitVec.ofNat 8 ((x + 100 - y) % 100 / 10 * 16 + (x + 100 - y) % 10) ∧ (u.cpu.flagC = true ↔ x < y))

/-- CPL, SCF and CCF (42_alu8 R310, R311, R312). -/
def Obligations.complementAndCarryFlag : Prop :=
  ∀ (s : State),
    (encode .cpl = [0x2F] ∧
      ∃ t, exec .cpl s = .next t ∧ t.cpu.a.toNat = 255 - s.cpu.a.toNat ∧
        t.flagsAre (s.cpu.flagZ = true) True True (s.cpu.flagC = true) ∧ s.regsKept t [.a] ∧ s.spPcKept t ∧
        s.registerFrame t 4) ∧
    (encode .scf = [0x37] ∧
      ∃ t, exec .scf s = .next t ∧ t.flagsAre (s.cpu.flagZ = true) False False True ∧ s.regsKept t [] ∧ s.spPcKept t ∧
        s.registerFrame t 4) ∧
    (encode .ccf = [0x3F] ∧
      ∃ t, exec .ccf s = .next t ∧ t.flagsAre (s.cpu.flagZ = true) False False (s.cpu.flagC = false) ∧ s.regsKept t [] ∧
        s.spPcKept t ∧ s.registerFrame t 4)

/-! ## 16-bit arithmetic -/

/-- `ADD HL,rr`: the sum modulo 65536, H out of bit 11, C out of bit 15, Z unchanged (43_alu16 R331). -/
def Obligations.addPairToHl : Prop :=
  ∀ (s : State) (p : Pair), encode (.addHLPair p) = [0x09#8 + 16 * pairCode p] ∧
    ∃ t, exec (.addHLPair p) s = .next t ∧ t.hl.toNat = (s.hl.toNat + (s.getPair p).toNat) % 65536 ∧
      t.flagsAre (s.cpu.flagZ = true) False (4095 < s.hl.toNat % 4096 + (s.getPair p).toNat % 4096)
        (65535 < s.hl.toNat + (s.getPair p).toNat) ∧
      s.regsKept t [.h, .l] ∧ s.spPcKept t ∧ s.registerFrame t 8

/-- `INC rr` and `DEC rr`: modulo 65536, no flag (43_alu16 R332, R333). -/
def Obligations.incrementDecrementPair : Prop :=
  ∀ (s : State) (p : Pair),
    (encode (.incPair p) = [0x03#8 + 16 * pairCode p] ∧
      ∃ t, exec (.incPair p) s = .next t ∧ (t.getPair p).toNat = ((s.getPair p).toNat + 1) % 65536 ∧
        (∀ q, q ≠ p → t.getPair q = s.getPair q) ∧ t.cpu.a = s.cpu.a ∧ t.cpu.f = s.cpu.f ∧ t.cpu.pc = s.cpu.pc ∧
        s.registerFrame t 8) ∧
    (encode (.decPair p) = [0x0B#8 + 16 * pairCode p] ∧
      ∃ t, exec (.decPair p) s = .next t ∧ (t.getPair p).toNat = ((s.getPair p).toNat + 65535) % 65536 ∧
        (∀ q, q ≠ p → t.getPair q = s.getPair q) ∧ t.cpu.a = s.cpu.a ∧ t.cpu.f = s.cpu.f ∧ t.cpu.pc = s.cpu.pc ∧
        s.registerFrame t 8)

/-! ## Rotates, shifts, bits -/

/-- RLCA, RRCA, RLA and RRA: the rotate of A with Z always 0 (44_rotate_shift R341 to R344). -/
def Obligations.accumulatorRotates : Prop :=
  ∀ (s : State) (i : Instr) (o : ShiftOp) (opc : Byte),
    (i = .rlca ∧ o = .rlc ∧ opc = 0x07) ∨ (i = .rrca ∧ o = .rrc ∧ opc = 0x0F) ∨ (i = .rla ∧ o = .rl ∧ opc = 0x17) ∨
      (i = .rra ∧ o = .rr ∧ opc = 0x1F) →
    encode i = [opc] ∧
    ∃ t, exec i s = .next t ∧ t.cpu.a.toNat = shiftResult o s.cpu.a s.cpu.flagC.toNat ∧
      t.flagsAre False False False (shiftedOut o s.cpu.a) ∧ s.regsKept t [.a] ∧ s.spPcKept t ∧ s.registerFrame t 4

/-- The CB rotates, shifts and SWAP of a register and of the byte at HL, which is read and written back
(44_rotate_shift R345 to R360). -/
def Obligations.shiftRegisterAndMemory : Prop :=
  (∀ (s : State) (o : ShiftOp) (dst : Reg8), encode (.shiftReg o dst) = [0xCB#8, 8 * shiftCode o + regCode dst] ∧
    ∃ t, exec (.shiftReg o dst) s = .next t ∧
      (t.getReg dst).toNat = shiftResult o (s.getReg dst) s.cpu.flagC.toNat ∧
      t.flagsAre ((t.getReg dst).toNat = 0) False False (shiftedOut o (s.getReg dst)) ∧
      s.regsKept t [dst] ∧ s.spPcKept t ∧ s.registerFrame t 8) ∧
  (∀ (s : State) (o : ShiftOp), encode (.shiftMem o) = [0xCB#8, 8 * shiftCode o + 6] ∧
    ∃ t v, exec (.shiftMem o) s = .next t ∧ v.toNat = shiftResult o (s.busRead s.hl) s.cpu.flagC.toNat ∧
      t.flagsAre (v.toNat = 0) False False (shiftedOut o (s.busRead s.hl)) ∧
      s.regsKept t [] ∧ s.spPcKept t ∧ s.storeFrame t s.hl v 16)

/-- `BIT b`: Z is the complement of the bit, N = 0, H = 1, C and the operand unchanged (45_bit R371, R372). -/
def Obligations.testBit : Prop :=
  ∀ (s : State) (b : Fin 8),
    (∀ r, encode (.bitReg b r) = [0xCB#8, 0x40#8 + 8 * BitVec.ofNat 8 b.val + regCode r] ∧
      ∃ t, exec (.bitReg b r) s = .next t ∧
        t.flagsAre ((s.getReg r).getLsbD b.val = false) False True (s.cpu.flagC = true) ∧ s.regsKept t [] ∧
        s.spPcKept t ∧ s.registerFrame t 8) ∧
    (encode (.bitMem b) = [0xCB#8, 0x46#8 + 8 * BitVec.ofNat 8 b.val] ∧
      ∃ t, exec (.bitMem b) s = .next t ∧
        t.flagsAre ((s.busRead s.hl).getLsbD b.val = false) False True (s.cpu.flagC = true) ∧ s.regsKept t [] ∧
        s.spPcKept t ∧ s.registerFrame t 12)

/-- RES and SET of a register and of the byte at HL, which is read and written back: one bit changes, no flag (45_bit
R373 to R376). -/
def Obligations.resetAndSetBit : Prop :=
  (∀ (s : State) (b : Fin 8) (dst : Reg8),
    (encode (.resReg b dst) = [0xCB#8, 0x80#8 + 8 * BitVec.ofNat 8 b.val + regCode dst] ∧
      ∃ t, exec (.resReg b dst) s = .next t ∧
        (∀ k, k < 8 → (t.getReg dst).getLsbD k = if k = b.val then false else (s.getReg dst).getLsbD k) ∧
        s.regsKept t [dst] ∧ s.flagsSpPcKept t ∧ s.registerFrame t 8) ∧
    (encode (.setReg b dst) = [0xCB#8, 0xC0#8 + 8 * BitVec.ofNat 8 b.val + regCode dst] ∧
      ∃ t, exec (.setReg b dst) s = .next t ∧
        (∀ k, k < 8 → (t.getReg dst).getLsbD k = if k = b.val then true else (s.getReg dst).getLsbD k) ∧
        s.regsKept t [dst] ∧ s.flagsSpPcKept t ∧ s.registerFrame t 8)) ∧
  (∀ (s : State) (b : Fin 8),
    (encode (.resMem b) = [0xCB#8, 0x86#8 + 8 * BitVec.ofNat 8 b.val] ∧
      ∃ t v, exec (.resMem b) s = .next t ∧
        (∀ k, k < 8 → v.getLsbD k = if k = b.val then false else (s.busRead s.hl).getLsbD k) ∧
        s.regsKept t [] ∧ s.flagsSpPcKept t ∧ s.storeFrame t s.hl v 16) ∧
    (encode (.setMem b) = [0xCB#8, 0xC6#8 + 8 * BitVec.ofNat 8 b.val] ∧
      ∃ t v, exec (.setMem b) s = .next t ∧
        (∀ k, k < 8 → v.getLsbD k = if k = b.val then true else (s.busRead s.hl).getLsbD k) ∧
        s.regsKept t [] ∧ s.flagsSpPcKept t ∧ s.storeFrame t s.hl v 16))

/-! ## Control transfers -/

/-- `JP nn`, `JP HL`, `JR e`, `JP cc,nn`, `JR cc,e`; a conditional one not taken leaves PC at `PC_next` and changes
nothing else, at the lower cost (46_control R381 to R385). -/
def Obligations.jumpsAndConditionalJumps : Prop :=
  (∀ (s : State),
    (∀ nn, encode (.jp_nn nn) = [0xC3, loByte nn, hiByte nn] ∧
      ∃ t, exec (.jp_nn nn) s = .next t ∧ t.cpu.pc = nn ∧ s.regsKept t [] ∧ t.cpu.f = s.cpu.f ∧ t.cpu.sp = s.cpu.sp ∧
        s.registerFrame t 16) ∧
    (encode .jp_HL = [0xE9] ∧
      ∃ t, exec .jp_HL s = .next t ∧ t.cpu.pc = s.hl ∧ s.regsKept t [] ∧ t.cpu.f = s.cpu.f ∧ t.cpu.sp = s.cpu.sp ∧
        s.registerFrame t 4) ∧
    (∀ e, encode (.jr_e e) = [0x18, e] ∧
      ∃ t, exec (.jr_e e) s = .next t ∧ (t.cpu.pc.toNat : Int) = (s.cpu.pc.toNat + e.toInt) % 65536 ∧ s.regsKept t [] ∧
        t.cpu.f = s.cpu.f ∧ t.cpu.sp = s.cpu.sp ∧ s.registerFrame t 12)) ∧
  (∀ (s : State) (cc : Cond),
    (∀ nn, encode (.jpCond cc nn) = [0xC2#8 + 8 * condCode cc, loByte nn, hiByte nn] ∧
      ∃ t, exec (.jpCond cc nn) s = .next t ∧ s.regsKept t [] ∧ t.cpu.f = s.cpu.f ∧ t.cpu.sp = s.cpu.sp ∧
        (s.condHolds cc → t.cpu.pc = nn ∧ s.registerFrame t 16) ∧
        (¬s.condHolds cc → t.cpu.pc = s.cpu.pc ∧ s.registerFrame t 12)) ∧
    (∀ e, encode (.jrCond cc e) = [0x20#8 + 8 * condCode cc, e] ∧
      ∃ t, exec (.jrCond cc e) s = .next t ∧ s.regsKept t [] ∧ t.cpu.f = s.cpu.f ∧ t.cpu.sp = s.cpu.sp ∧
        (s.condHolds cc → (t.cpu.pc.toNat : Int) = (s.cpu.pc.toNat + e.toInt) % 65536 ∧ s.registerFrame t 12) ∧
        (¬s.condHolds cc → t.cpu.pc = s.cpu.pc ∧ s.registerFrame t 8)))

/-- `CALL nn`, `RST t`: PC_next is pushed, then PC is the target. `CALL cc,nn` and `RET cc`: taken as CALL and RET;
not taken, no stack access at all (46_control R386, R387, R389, R391). -/
def Obligations.callsRestartsAndConditionalReturn : Prop :=
  (∀ (s : State),
    (∀ nn, encode (.call_nn nn) = [0xCD, loByte nn, hiByte nn] ∧
      ∃ t, exec (.call_nn nn) s = .next t ∧ t.cpu.pc = nn ∧ t.cpu.sp = s.cpu.sp - 2 ∧ s.regsKept t [] ∧
        t.cpu.f = s.cpu.f ∧
        s.twoStoreFrame t (s.cpu.sp - 1) (hiByte s.cpu.pc) (s.cpu.sp - 2) (loByte s.cpu.pc) 24) ∧
    (∀ k : Fin 8, encode (.rst k) = [0xC7#8 + 8 * BitVec.ofNat 8 k.val] ∧
      ∃ t, exec (.rst k) s = .next t ∧ t.cpu.pc.toNat = 8 * k.val ∧ t.cpu.sp = s.cpu.sp - 2 ∧ s.regsKept t [] ∧
        t.cpu.f = s.cpu.f ∧
        s.twoStoreFrame t (s.cpu.sp - 1) (hiByte s.cpu.pc) (s.cpu.sp - 2) (loByte s.cpu.pc) 16)) ∧
  (∀ (s : State) (cc : Cond),
    (∀ nn, encode (.callCond cc nn) = [0xC4#8 + 8 * condCode cc, loByte nn, hiByte nn] ∧
      ∃ t, exec (.callCond cc nn) s = .next t ∧ s.regsKept t [] ∧ t.cpu.f = s.cpu.f ∧
        (s.condHolds cc → t.cpu.pc = nn ∧ t.cpu.sp = s.cpu.sp - 2 ∧
          s.twoStoreFrame t (s.cpu.sp - 1) (hiByte s.cpu.pc) (s.cpu.sp - 2) (loByte s.cpu.pc) 24) ∧
        (¬s.condHolds cc → s.spPcKept t ∧ s.registerFrame t 12)) ∧
    (encode (.retCond cc) = [0xC0#8 + 8 * condCode cc] ∧
      ∃ t, exec (.retCond cc) s = .next t ∧ s.regsKept t [] ∧ t.cpu.f = s.cpu.f ∧
        (s.condHolds cc → t.cpu.pc = join (s.busRead (s.cpu.sp + 1)) (s.busRead s.cpu.sp) ∧
          t.cpu.sp = s.cpu.sp + 2 ∧ s.registerFrame t 20) ∧
        (¬s.condHolds cc → s.spPcKept t ∧ s.registerFrame t 8)))

/-- `RET`, and `RETI`, which sets IME at once and cancels an EI delay (46_control R388, R390). -/
def Obligations.returns : Prop :=
  ∀ (s : State),
    (encode .ret = [0xC9] ∧
      ∃ t, exec .ret s = .next t ∧ t.cpu.pc = join (s.busRead (s.cpu.sp + 1)) (s.busRead s.cpu.sp) ∧
        t.cpu.sp = s.cpu.sp + 2 ∧ s.regsKept t [] ∧ t.cpu.f = s.cpu.f ∧ s.registerFrame t 16) ∧
    (encode .reti = [0xD9] ∧
      ∃ t, exec .reti s = .next t ∧ t.cpu.pc = join (s.busRead (s.cpu.sp + 1)) (s.busRead s.cpu.sp) ∧
        t.cpu.sp = s.cpu.sp + 2 ∧ s.regsKept t [] ∧ t.cpu.f = s.cpu.f ∧ t.cpu.ime = true ∧ t.cpu.imePending = false ∧
        t.cpu.cost = 16 ∧ t.cpu.runMode = s.cpu.runMode ∧ t.cpu.haltBug = s.cpu.haltBug ∧ t.cpu.locked = s.cpu.locked ∧
        t.cpu.doubleSpeed = s.cpu.doubleSpeed ∧ t.cpu.speedPrepare = s.cpu.speedPrepare ∧ s.outsideKept t ∧
        s.bytesKept t)

/-! ## System instructions -/

/-- NOP changes nothing, DI clears IME and the EI delay, EI arms the EI delay and leaves IME (47_system R411, R414,
R415). -/
def Obligations.nopDisableEnable : Prop :=
  ∀ (s : State),
    (encode .nop = [0x00] ∧ exec .nop s = .next { s with cpu.cost := 4 }) ∧
    (encode .di = [0xF3] ∧
      exec .di s = .next { s with cpu.ime := false, cpu.imePending := false, cpu.cost := 4 }) ∧
    (encode .ei = [0xFB] ∧ exec .ei s = .next { s with cpu.imePending := true, cpu.cost := 4 })

/-- HALT: with nothing pending the CPU halts whatever IME is; with an interrupt pending it does nothing if IME = 1 and
arms the HALT bug if IME = 0 (47_system R412). -/
def Obligations.haltInstruction : Prop :=
  ∀ (s : State), encode .halt = [0x76] ∧
    (s.irq.ie.extractLsb' 0 5 &&& s.irq.ifl = 0#5 →
      exec .halt s = .next { s with cpu.runMode := .halted, cpu.cost := 4 }) ∧
    (s.irq.ie.extractLsb' 0 5 &&& s.irq.ifl ≠ 0#5 → s.cpu.ime = true → exec .halt s = .next { s with cpu.cost := 4 }) ∧
    (s.irq.ie.extractLsb' 0 5 &&& s.irq.ifl ≠ 0#5 → s.cpu.ime = false →
      exec .halt s = .next { s with cpu.haltBug := true, cpu.cost := 4 })

/-- STOP: a prepared STOP in CGB mode toggles the speed, clears the prepare bit and keeps running; any other stops.
Both reset the divider, which increments TIMA if the timer input falls (47_system R413, 61_timer R488). -/
def Obligations.stopInstruction : Prop :=
  ∀ (s : State) (x : Byte), encode (.stop x) = [0x10, x] ∧
    ∃ t, exec (.stop x) s = .next t ∧ t.cpu.cost = 4 ∧ t.timer.div = 0#16 ∧ t.timer.tma = s.timer.tma ∧
      t.timer.tac = s.timer.tac ∧
      (s.timer.input = false → t.timer.tima = s.timer.tima ∧ t.timer.reloadDelay = s.timer.reloadDelay) ∧
      (s.timer.input = true → s.timer.tima ≠ 0xFF#8 →
        t.timer.tima = s.timer.tima + 1 ∧ t.timer.reloadDelay = s.timer.reloadDelay) ∧
      (s.timer.input = true → s.timer.tima = 0xFF#8 → t.timer.tima = 0#8 ∧ t.timer.reloadDelay = 4) ∧
      (s.cfg.hwMode = .cgb ∧ s.cpu.speedPrepare = true →
        t = { s with
          timer := t.timer, cpu.doubleSpeed := !s.cpu.doubleSpeed, cpu.speedPrepare := false, cpu.cost := 4 }) ∧
      (¬(s.cfg.hwMode = .cgb ∧ s.cpu.speedPrepare = true) →
        t = { s with timer := t.timer, cpu.runMode := .stopped, cpu.cost := 4 })

/-- The eleven illegal opcodes lock the CPU; no register, flag or memory byte changes (47_system R417, 30_encoding
R194). -/
def Obligations.illegalOpcodesLock : Prop :=
  ∀ (s : State) (i : Instr) (o : Byte),
    (i, o) ∈ [(Instr.illegal_D3, 0xD3#8), (.illegal_DB, 0xDB), (.illegal_DD, 0xDD), (.illegal_E3, 0xE3), (.illegal_E4, 0xE4),
      (.illegal_EB, 0xEB), (.illegal_EC, 0xEC), (.illegal_ED, 0xED), (.illegal_F4, 0xF4), (.illegal_FC, 0xFC),
      (.illegal_FD, 0xFD)] →
    encode i = [o] ∧ exec i s = .next { s with cpu.locked := true, cpu.cost := 4 }

/-- A locked CPU does nothing in any step, whatever is pending: its registers and control state stay, each step costs
4, and the devices advance by 4 cycles, 2 in double speed (60_exceptions R442). -/
def Obligations.lockedForever : Prop :=
  ∀ (s : State), s.cpu.locked = true →
    ∃ t, step s = .next t ∧ t.cpu = { s.cpu with cost := 4 } ∧
      t = State.deviceCycles { s.takeHostInput with cpu.cost := 4 } (if s.cpu.doubleSpeed then 2 else 4)

/-! ## Interrupts -/

/-- Dispatch: with IME set and an interrupt pending and enabled, the CPU step pushes PC (the HALT's address if the
HALT bug is armed), clears IME and the EI delay, acknowledges that interrupt alone, jumps to its vector, at a cost of
20; no general register and no flag changes. Where both stack addresses are plain, every address but those two and IF
reads as before, and the return address reads back (60_exceptions R437, R438, R439, 20_memory R102). -/
def Obligations.interruptDispatch : Prop :=
  (∀ (s : State) (k : IrqSource) (ret : Word) (w : State),
    s.cpu.locked = false → s.cpu.runMode = .running → s.cpu.ime = true → s.nextPending = some k →
    ret = (if s.cpu.haltBug then s.cpu.pc - 1 else s.cpu.pc) →
    w = (s.busWrite (s.cpu.sp - 1) (hiByte ret)).busWrite (s.cpu.sp - 2) (loByte ret) →
    ∃ t, s.cpuStep = .next t ∧ t.cpu.pc.toNat = 0x40 + 8 * k.bit ∧ t.cpu.sp = s.cpu.sp - 2 ∧ t.cpu.ime = false ∧
      t.cpu.imePending = false ∧ t.cpu.haltBug = false ∧ t.cpu.runMode = .running ∧ t.cpu.locked = false ∧
      t.cpu.cost = 20 ∧ t.cpu.doubleSpeed = s.cpu.doubleSpeed ∧ t.cpu.speedPrepare = w.cpu.speedPrepare ∧
      s.regsKept t [] ∧ t.cpu.f = s.cpu.f ∧
      (∀ j, t.irq.ifl.getLsbD j = (w.irq.ifl.getLsbD j && decide (j ≠ k.bit))) ∧
      t = { w with cpu := t.cpu, irq.ifl := t.irq.ifl }) ∧
  (∀ (s : State) (k : IrqSource) (ret : Word),
    s.cpu.locked = false → s.cpu.runMode = .running → s.cpu.ime = true → s.nextPending = some k →
    ret = (if s.cpu.haltBug then s.cpu.pc - 1 else s.cpu.pc) →
    (s.place (s.cpu.sp - 1)).plain = true → (s.place (s.cpu.sp - 2)).plain = true →
    ∃ t, s.cpuStep = .next t ∧
      (∀ b, s.place b ≠ s.place (s.cpu.sp - 1) → s.place b ≠ s.place (s.cpu.sp - 2) → b ≠ 0xFF0F#16 →
        t.busRead b = s.busRead b) ∧
      (s.stores (s.place (s.cpu.sp - 1)) = true → t.busRead (s.cpu.sp - 1) = hiByte ret) ∧
      (s.stores (s.place (s.cpu.sp - 2)) = true → t.busRead (s.cpu.sp - 2) = loByte ret))

/-- The interrupt chosen is the lowest bit set in both IE and IF, or none if there is none (60_exceptions R430, R434). -/
def Obligations.lowestPendingWins : Prop :=
  ∀ (s : State),
    (∀ k : IrqSource, s.nextPending = some k ↔
      (s.irq.ie.getLsbD k.bit = true ∧ s.irq.ifl.getLsbD k.bit = true ∧
        ∀ j : Nat, j < k.bit → ¬(s.irq.ie.getLsbD j = true ∧ s.irq.ifl.getLsbD j = true))) ∧
    (s.nextPending = none ↔ ∀ j : Nat, j < 5 → ¬(s.irq.ie.getLsbD j = true ∧ s.irq.ifl.getLsbD j = true))

/-- The EI delay: an instruction step that begins with the delay pending ends with IME set and the delay cleared,
unless the instruction is DI, which leaves both clear; without the delay IME is changed by no instruction but DI and
RETI; idle steps leave both alone; and with IME clear no interrupt is taken (60_exceptions R443, R437). -/
def Obligations.enableDelay : Prop :=
  ∀ (s : State),
    (s.cpu.ime = false → s.interruptDue = none) ∧
    (∀ (i : Instr) (rest : List Byte), s.cpu.locked = false → s.cpu.runMode = .running → s.interruptDue = none →
      decode s.fetchWindow = .ok (i, rest) → ∃ t, s.cpuStep = .next t ∧
        (s.cpu.imePending = true → i ≠ .di → t.cpu.ime = true ∧ t.cpu.imePending = false) ∧
        (i = .di → t.cpu.ime = false ∧ t.cpu.imePending = false) ∧
        (s.cpu.imePending = false → i = .ei → t.cpu.ime = s.cpu.ime ∧ t.cpu.imePending = true) ∧
        (s.cpu.imePending = false → i ≠ .di → i ≠ .ei → i ≠ .reti →
          t.cpu.ime = s.cpu.ime ∧ t.cpu.imePending = false)) ∧
    (s.cpu.locked = true ∨ s.cpu.runMode ≠ .running →
      ∃ t, s.cpuStep = .next t ∧ t.cpu.ime = s.cpu.ime ∧ t.cpu.imePending = s.cpu.imePending)

/-- IME is written by four things alone: dispatch and DI clear it, RETI and the end of the EI delay set it
(60_exceptions R436). -/
def Obligations.onlyFourWritersOfIme : Prop :=
  ∀ (s t : State), step s = .next t → t.cpu.ime ≠ s.cpu.ime →
    (∃ k, s.takeHostInput.interruptDue = some k ∧ t.cpu.ime = false) ∨
    (∃ rest, decode s.takeHostInput.fetchWindow = .ok (.di, rest) ∧ t.cpu.ime = false) ∨
    (∃ rest, decode s.takeHostInput.fetchWindow = .ok (.reti, rest) ∧ t.cpu.ime = true) ∨
    (s.cpu.imePending = true ∧ t.cpu.ime = true)

/-- A halted CPU wakes exactly when an interrupt is pending and enabled, whatever IME is; a stopped CPU exactly when a
button of a selected group is pressed. The step fetches nothing, costs 4 and changes nothing else (60_exceptions R440,
R441). -/
def Obligations.idleAndWake : Prop :=
  ∀ (s : State), s.cpu.locked = false →
    (s.cpu.runMode = .halted → s.irq.ie.extractLsb' 0 5 &&& s.irq.ifl = 0#5 →
      s.cpuStep = .next { s with cpu.cost := 4 }) ∧
    (s.cpu.runMode = .halted → s.irq.ie.extractLsb' 0 5 &&& s.irq.ifl ≠ 0#5 →
      s.cpuStep = .next { s with cpu.runMode := .running, cpu.cost := 4 }) ∧
    (s.cpu.runMode = .stopped → s.p1Read.extractLsb' 0 4 = 0xF#4 → s.cpuStep = .next { s with cpu.cost := 4 }) ∧
    (s.cpu.runMode = .stopped → s.p1Read.extractLsb' 0 4 ≠ 0xF#4 →
      s.cpuStep = .next { s with cpu.runMode := .running, cpu.cost := 4 })

/-! ## The whole machine -/

/-- Every step answers a next state: no instruction traps, no access faults, nothing is refused (60_exceptions R444,
20_memory R80, R98). -/
def Obligations.stepAlwaysAnswers : Prop := ∀ (s : State), ∃ t, step s = .next t

/-- The configuration, the ROM image in it, is never changed (10_state R43, 21_cartridge R140, 00_scope R3). The speed
changes in a STOP alone, and only in CGB mode with the switch prepared (10_state R41, 47_system R413). -/
def Obligations.configurationFixedAndSpeedOnlyByStop : Prop :=
  (∀ (s t : State), step s = .next t → t.cfg = s.cfg) ∧
  (∀ (s t : State), step s = .next t → t.cpu.doubleSpeed ≠ s.cpu.doubleSpeed →
    s.cfg.hwMode = .cgb ∧ s.cpu.speedPrepare = true ∧
      ∃ x rest, decode s.takeHostInput.fetchWindow = .ok (.stop x, rest))

/-- The CPU's invariant is kept by every step: F's low nibble is zero, an idle CPU has no HALT bug and is not locked,
the speed bits are 0 in DMG mode, the cost is a multiple of 4 of at most 24 (10_state R33, R41, 60_exceptions R449). -/
def Obligations.cpuInvariantKept : Prop := ∀ (s t : State), s.CpuOk → step s = .next t → t.CpuOk

/-- Every memory keeps its canonical form and stays within its size: VRAM and WRAM that of the mode, cartridge RAM that of
the cartridge (20_memory R83, R86, R89, R92, 62_ppu R507, R508, 63_io_devices R575, 21_cartridge R140, R149). The
premise `DmgQuiet` is an invariant of its own, `cartridgeAndModeInvariantKept`. The canonical form, and the zero an
unlisted byte reads as, are the model's choice, log entry 2. -/
def Obligations.memoriesInvariantKept : Prop :=
  ∀ (s t : State), s.MemoriesOk → s.DmgQuiet → step s = .next t → t.MemoriesOk

/-- The PPU keeps its ranges: LY below 154, dot below 456, at most ten sprites, a frame of 144 by 160, the position at
the origin with the LCD off, the window counter never ahead of the lines drawn (62_ppu R509, R512, R519, R520, R524). -/
def Obligations.ppuInvariantKept : Prop := ∀ (s t : State), s.PpuOk → step s = .next t → t.PpuOk

/-- The other devices keep their ranges, and the joypad lines are current (61_timer R480, 63_io_devices R571, R573,
R577). -/
def Obligations.devicesInvariantKept : Prop := ∀ (s t : State), s.DevicesOk → step s = .next t → t.DevicesOk

/-- The bank registers stay within their variant's widths, and bank 0 is never selected where it is replaced by 1; in
DMG mode the registers of CGB mode (KEY1, VBK, SVBK, BCPS, OCPS, HDMA1 to HDMA5) stay at reset, and the palette memories
stay as they are (21_cartridge R145, R148, R150, R152, 63_io_devices R582). -/
def Obligations.cartridgeAndModeInvariantKept : Prop :=
  ∀ (s t : State), step s = .next t →
    (s.CartOk → t.CartOk) ∧ (s.DmgQuiet → t.DmgQuiet) ∧
      (s.cfg.hwMode = .dmg → t.ppu.bgPal = s.ppu.bgPal ∧ t.ppu.objPal = s.ppu.objPal)

/-- The state after reset meets every invariant. -/
def Obligations.resetMeetsInvariants : Prop :=
  State.reset.CpuOk ∧ State.reset.MemoriesOk ∧ State.reset.PpuOk ∧ State.reset.DevicesOk ∧ State.reset.CartOk ∧
    State.reset.DmgQuiet

/-- The CPU after reset in both modes, and what a read of each I/O register returns right after reset, but for the APU
and the palette memories, whose contents are open: for every configuration and all initial data (10_state R45, R46,
R47, 70_reset_and_hazards R614). -/
def Obligations.resetValues : Prop :=
  (∀ (cfg : Config) (d : InitialData) (u : Cpu), u = (State.resetFor cfg d).cpu →
    (cfg.hwMode = .dmg → u.a = 0x01 ∧ u.f = 0xB0 ∧ u.b = 0x00 ∧ u.c = 0x13 ∧ u.d = 0x00 ∧ u.e = 0xD8 ∧ u.h = 0x01 ∧
      u.l = 0x4D ∧ u.sp = 0xFFFE ∧ u.pc = 0x0100) ∧
    (cfg.hwMode = .cgb → u.a = 0x11 ∧ u.f = 0x80 ∧ u.b = 0x00 ∧ u.c = 0x00 ∧ u.d = 0xFF ∧ u.e = 0x56 ∧ u.h = 0x00 ∧
      u.l = 0x0D ∧ u.sp = 0xFFFE ∧ u.pc = 0x0100) ∧
    u.ime = false ∧ u.imePending = false ∧ u.runMode = .running ∧ u.haltBug = false ∧ u.locked = false ∧
    u.doubleSpeed = false ∧ u.speedPrepare = false) ∧
  (∀ (cfg : Config) (d : InitialData) (s : State), s = State.resetFor cfg d →
    (s.busRead 0xFF00 = 0xCF ∧ s.busRead 0xFF01 = 0x00 ∧ s.busRead 0xFF02 = (if cfg.hwMode = .dmg then 0x7E else 0x7C) ∧
      s.busRead 0xFF04 = hiByte d.divInit ∧ s.busRead 0xFF05 = 0x00 ∧ s.busRead 0xFF06 = 0x00 ∧ s.busRead 0xFF07 = 0xF8 ∧
      s.busRead 0xFF0F = 0xE1 ∧ s.busRead 0xFF40 = 0x91 ∧ s.busRead 0xFF41 = 0x86 ∧ s.busRead 0xFF42 = 0x00 ∧
      s.busRead 0xFF43 = 0x00 ∧ s.busRead 0xFF44 = 0x00 ∧ s.busRead 0xFF45 = 0x00 ∧ s.busRead 0xFF46 = 0xFF ∧
      s.busRead 0xFF47 = 0xFC ∧ s.busRead 0xFF48 = 0xFF ∧ s.busRead 0xFF49 = 0xFF ∧ s.busRead 0xFF4A = 0x00 ∧
      s.busRead 0xFF4B = 0x00 ∧ s.busRead 0xFFFF = 0x00) ∧
    (cfg.hwMode = .cgb → s.busRead 0xFF4D = 0x7E ∧ s.busRead 0xFF4F = 0xFE ∧ s.busRead 0xFF51 = 0xFF ∧
      s.busRead 0xFF52 = 0xFF ∧ s.busRead 0xFF53 = 0xFF ∧ s.busRead 0xFF54 = 0xFF ∧ s.busRead 0xFF55 = 0xFF ∧
      s.busRead 0xFF68 = 0x40 ∧ s.busRead 0xFF6A = 0x40 ∧ s.busRead 0xFF70 = 0xF8))

/-! ## The bus and the devices -/

/-- A CPU write of RAM that is not locked is the only byte that changes, and echo addresses reach the same cell as the
address 0x2000 lower; an unmapped address and the unusable range read 0xFF and take no write (20_memory R86, R88, R90,
R92, R94). Cartridge RAM: the cell each variant selects, by its own bank and enable, which a write changes alone; with
a battery a write that changes the cell is reported to the host, without one none is; where no cell is selected a read gives 0xFF and
a write changes nothing (21_cartridge R143, R144, R147, R149, R151, R153, R154). -/
def Obligations.busStoresAndEcho : Prop :=
  (∀ (s : State) (a : Word) (v : Byte),
    (s.stores (s.place a) = true → (s.busWrite a v).busRead a = v ∧
      ∀ b, s.place b ≠ s.place a → (s.busWrite a v).busRead b = s.busRead b) ∧
    (0xE000 ≤ a.toNat → a.toNat < 0xFE00 →
      s.busRead a = s.busRead (a - 0x2000#16) ∧ s.busWrite a v = s.busWrite (a - 0x2000#16) v ∧
      s.stores (s.place a) = true) ∧
    (0xC000 ≤ a.toNat → a.toNat < 0xE000 → s.stores (s.place a) = true) ∧
    (0xFF80 ≤ a.toNat → s.stores (s.place a) = true) ∧
    (0xFEA0 ≤ a.toNat → a.toNat < 0xFF00 → s.busRead a = 0xFF#8 ∧ s.busWrite a v = s) ∧
    (s.place a = .unmapped → s.busRead a = 0xFF#8 ∧ s.busWrite a v = s)) ∧
  (∀ (s t : State) (a : Word) (v w : Byte) (bank : Nat) (cell : Option Nat),
    0xA000 ≤ a.toNat → a.toNat < 0xC000 → t = s.busWrite a v →
    w = (if s.cfg.cart.variant = .mbc2 then BitVec.ofNat 8 (v.toNat % 16) else v) →
    bank = (match s.cfg.cart.variant with
      | .noController | .mbc2 => 0
      | .mbc1 => if s.cart.bankMode then s.cart.ramBank.toNat else 0
      | .mbc3 | .mbc5 => s.cart.ramBank.toNat) →
    cell = (if s.cfg.cart.variant = .mbc2 then
        if s.cart.ramEnable then some (a.toNat % 512) else none
      else if 0 < s.cfg.cart.ramSize ∧ (s.cfg.cart.variant = .noController ∨ s.cart.ramEnable = true) ∧
          (s.cfg.cart.variant = .mbc3 → bank ≤ 3) then
        some ((bank * 0x2000 + a.toNat % 0x2000) % s.cfg.cart.ramSize)
      else none) →
    (cell = none → s.busRead a = 0xFF#8 ∧ t = s) ∧
    (∀ k, cell = some k →
      s.busRead a = (if s.cfg.cart.variant = .mbc2 then 0xF0#8 ||| Memory.read s.cart.ram k else Memory.read s.cart.ram k) ∧
      Memory.read t.cart.ram k = w ∧ (∀ j, j ≠ k → Memory.read t.cart.ram j = Memory.read s.cart.ram j) ∧
      t = { s with cart.ram := t.cart.ram, host.ramReports := t.host.ramReports } ∧
      (s.cfg.cart.battery = true → Memory.read s.cart.ram k ≠ w → t.host.ramReports = (k, w) :: s.host.ramReports) ∧
      (s.cfg.cart.battery = false → t.host.ramReports = s.host.ramReports)))

/-- The PPU lock: with the LCD on and a visible line, VRAM is locked to the CPU in mode 3 and OAM in modes 2 and 3; a
locked read gives 0xFF and a locked write changes nothing. Everywhere else, V-blank and the LCD off among it, nothing is
locked: what is written reads back (20_memory R95, 62_ppu R513). -/
def Obligations.ppuLocksVideoMemory : Prop :=
  ∀ (s : State) (a : Word) (v : Byte) (visible : Prop), visible = (s.ppu.lcdc.getLsbD 7 = true ∧ s.ppu.ly < 144) →
    (0x8000 ≤ a.toNat → a.toNat < 0xA000 →
      (visible ∧ 80 ≤ s.ppu.dot ∧ s.ppu.dot < 80 + s.cfg.mode3Len → s.busRead a = 0xFF#8 ∧ s.busWrite a v = s) ∧
      (¬(visible ∧ 80 ≤ s.ppu.dot ∧ s.ppu.dot < 80 + s.cfg.mode3Len) → (s.busWrite a v).busRead a = v)) ∧
    (0xFE00 ≤ a.toNat → a.toNat < 0xFEA0 →
      (visible ∧ s.ppu.dot < 80 + s.cfg.mode3Len → s.busRead a = 0xFF#8 ∧ s.busWrite a v = s) ∧
      (¬(visible ∧ s.ppu.dot < 80 + s.cfg.mode3Len) → (s.busWrite a v).busRead a = v))

/-- The bank controllers, MBC1 first. MBC1: bank2 and bank1 together in the upper window, bank 0 or bank2 alone in the
lower one; its control writes; RAM that is not enabled reads 0xFF and drops writes. No controller, MBC2, MBC3 and MBC5:
bank 0 below, bank 1 or the selected bank above; their control writes, range by range (21_cartridge R142 to R146, R148,
R150, R152, R156). -/
def Obligations.mbc1Banking : Prop :=
  (∀ (s : State) (a : Word) (v : Byte), s.cfg.cart.variant = .mbc1 →
    (a.toNat < 0x4000 → s.busRead a = Memory.read s.cfg.rom
      ((if s.cart.bankMode then s.cart.ramBank.toNat <<< 5 else 0) % s.cfg.cart.romBanks * 0x4000 + a.toNat)) ∧
    (0x4000 ≤ a.toNat → a.toNat < 0x8000 → s.busRead a = Memory.read s.cfg.rom
      ((s.cart.ramBank.toNat <<< 5 ||| s.cart.romBank.toNat) % s.cfg.cart.romBanks * 0x4000 + (a.toNat - 0x4000))) ∧
    (a.toNat < 0x2000 → s.busWrite a v = { s with cart.ramEnable := decide (v.toNat % 16 = 10) }) ∧
    (0x2000 ≤ a.toNat → a.toNat < 0x4000 → ∃ t, s.busWrite a v = t ∧ t = { s with cart.romBank := t.cart.romBank } ∧
      t.cart.romBank.toNat = (if v.toNat % 32 = 0 then 1 else v.toNat % 32)) ∧
    (0x4000 ≤ a.toNat → a.toNat < 0x6000 → ∃ t, s.busWrite a v = t ∧ t = { s with cart.ramBank := t.cart.ramBank } ∧
      t.cart.ramBank.toNat = v.toNat % 4) ∧
    (0x6000 ≤ a.toNat → a.toNat < 0x8000 → s.busWrite a v = { s with cart.bankMode := decide (v.toNat % 2 = 1) }) ∧
    (0xA000 ≤ a.toNat → a.toNat < 0xC000 → s.cart.ramEnable = false → s.busRead a = 0xFF#8 ∧ s.busWrite a v = s)) ∧
  (∀ (s : State) (a : Word), s.cfg.cart.variant ≠ .mbc1 →
    (a.toNat < 0x4000 → s.busRead a = Memory.read s.cfg.rom a.toNat) ∧
    (0x4000 ≤ a.toNat → a.toNat < 0x8000 → s.busRead a = Memory.read s.cfg.rom
      ((if s.cfg.cart.variant = .noController then 1 else s.cart.romBank.toNat) % s.cfg.cart.romBanks * 0x4000 +
        (a.toNat - 0x4000)))) ∧
  (∀ (s : State) (a : Word) (v : Byte), s.cfg.cart.variant = .noController → a.toNat < 0x8000 → s.busWrite a v = s) ∧
  (∀ (s : State) (a : Word) (v : Byte), s.cfg.cart.variant = .mbc2 →
    (a.toNat < 0x4000 → a.toNat / 256 % 2 = 0 →
      s.busWrite a v = { s with cart.ramEnable := decide (v.toNat % 16 = 10) }) ∧
    (a.toNat < 0x4000 → a.toNat / 256 % 2 = 1 → ∃ t, s.busWrite a v = t ∧ t = { s with cart.romBank := t.cart.romBank } ∧
      t.cart.romBank.toNat = (if v.toNat % 16 = 0 then 1 else v.toNat % 16)) ∧
    (0x4000 ≤ a.toNat → a.toNat < 0x8000 → s.busWrite a v = s)) ∧
  (∀ (s : State) (a : Word) (v : Byte), s.cfg.cart.variant = .mbc3 →
    (a.toNat < 0x2000 → s.busWrite a v = { s with cart.ramEnable := decide (v.toNat % 16 = 10) }) ∧
    (0x2000 ≤ a.toNat → a.toNat < 0x4000 → ∃ t, s.busWrite a v = t ∧ t = { s with cart.romBank := t.cart.romBank } ∧
      t.cart.romBank.toNat = (if v.toNat % 128 = 0 then 1 else v.toNat % 128)) ∧
    (0x4000 ≤ a.toNat → a.toNat < 0x6000 → s.busWrite a v = { s with cart.ramBank := v }) ∧
    (0x6000 ≤ a.toNat → a.toNat < 0x8000 → s.busWrite a v = s)) ∧
  (∀ (s : State) (a : Word) (v : Byte), s.cfg.cart.variant = .mbc5 →
    (a.toNat < 0x2000 → s.busWrite a v = { s with cart.ramEnable := decide (v.toNat % 16 = 10) }) ∧
    (0x2000 ≤ a.toNat → a.toNat < 0x3000 → ∃ t, s.busWrite a v = t ∧ t = { s with cart.romBank := t.cart.romBank } ∧
      t.cart.romBank.toNat = s.cart.romBank.toNat / 256 * 256 + v.toNat) ∧
    (0x3000 ≤ a.toNat → a.toNat < 0x4000 → ∃ t, s.busWrite a v = t ∧ t = { s with cart.romBank := t.cart.romBank } ∧
      t.cart.romBank.toNat = v.toNat % 2 * 256 + s.cart.romBank.toNat % 256) ∧
    (0x4000 ≤ a.toNat → a.toNat < 0x6000 → ∃ t, s.busWrite a v = t ∧ t = { s with cart.ramBank := t.cart.ramBank } ∧
      t.cart.ramBank.toNat = v.toNat % 16) ∧
    (0x6000 ≤ a.toNat → a.toNat < 0x8000 → s.busWrite a v = s))

/-- The divider counts every device cycle whatever else happens, and DIV is its top byte (61_timer R480, R481, R486). -/
def Obligations.dividerCountsDeviceCycles : Prop :=
  ∀ (s : State) (n : Nat),
    (s.deviceCycles n).timer.div.toNat = (s.timer.div.toNat + n) % 65536 ∧
      (s.deviceCycles n).busRead 0xFF04 = BitVec.ofNat 8 ((s.timer.div.toNat + n) / 256)

/-- A timer cycle: a pending reload counts down and, at its end, loads TMA and requests the Timer interrupt; then the
divider counts, and TIMA counts exactly when the selected divider bit falls with the timer enabled, overflowing from
0xFF to 0x00 with the reload armed (61_timer R485, R486, R487). -/
def Obligations.timerCountsAndReloads : Prop :=
  ∀ (s t : State) (bit : Nat) (base : Byte) (falls : Prop), t = s.timerTick →
    bit = (match (s.timer.tac.extractLsb' 0 2).toNat with | 0 => 9 | 1 => 3 | 2 => 5 | _ => 7) →
    base = (if s.timer.reloadDelay = 1 then s.timer.tma else s.timer.tima) →
    falls = (s.timer.tac.getLsbD 2 = true ∧ s.timer.div.toNat % 2 ^ (bit + 1) = 2 ^ (bit + 1) - 1) →
    t.timer.div = s.timer.div + 1 ∧ t.timer.tma = s.timer.tma ∧ t.timer.tac = s.timer.tac ∧
    (¬falls → t.timer.tima = base ∧ t.timer.reloadDelay = s.timer.reloadDelay - 1) ∧
    (falls → base ≠ 0xFF#8 → t.timer.tima = base + 1 ∧ t.timer.reloadDelay = s.timer.reloadDelay - 1) ∧
    (falls → base = 0xFF#8 → t.timer.tima = 0#8 ∧ t.timer.reloadDelay = 4) ∧
    (s.timer.reloadDelay = 1 → t.irq.ifl = s.irq.ifl ||| 4#5) ∧ (s.timer.reloadDelay ≠ 1 → t.irq = s.irq) ∧
    t = { s with timer := t.timer, irq.ifl := t.irq.ifl }

/-- With the LCD on, `n` device cycles move the PPU `n` dots through a frame of 154 lines of 456 dots; a VBlank
request is made, and the frame buffer handed to the host, exactly at the dot that enters line 144 (62_ppu R512, R514,
R515). -/
def Obligations.framePositionAndVblank : Prop :=
  (∀ (s : State) (n : Nat), s.ppu.lcdOn = true → s.ppu.ly < 154 → s.ppu.dot < 456 →
    456 * (s.deviceCycles n).ppu.ly + (s.deviceCycles n).ppu.dot = (456 * s.ppu.ly + s.ppu.dot + n) % 70224 ∧
      (s.deviceCycles n).ppu.dot < 456 ∧ (s.deviceCycles n).ppu.lcdOn = true) ∧
  (∀ (s : State), s.ppu.lcdOn = true → s.ppu.ly < 154 → s.ppu.dot < 456 →
    (s.ppuTick.ppu.ly = 144 ∧ s.ppuTick.ppu.dot = 0 →
      s.ppuTick.irq.ifl.getLsbD 0 = true ∧ s.ppuTick.host.frames = s.ppu.fb :: s.host.frames) ∧
    (¬(s.ppuTick.ppu.ly = 144 ∧ s.ppuTick.ppu.dot = 0) →
      s.ppuTick.irq.ifl.getLsbD 0 = s.irq.ifl.getLsbD 0 ∧ s.ppuTick.host.frames = s.host.frames))

/-- The STAT line: after every dot with the LCD on it is the OR of the enabled sources, and its rise, not its level,
makes the STAT request (62_ppu R517, R518). -/
def Obligations.statRequestOnRisingEdge : Prop :=
  ∀ (s t : State), s.ppu.lcdOn = true → t = s.ppuTick →
    (t.ppu.statLine = true ↔
      (s.ppu.statEn.getLsbD 0 = true ∧ t.ppuMode = .hblank) ∨ (s.ppu.statEn.getLsbD 1 = true ∧ t.ppuMode = .vblank) ∨
      (s.ppu.statEn.getLsbD 2 = true ∧ t.ppuMode = .oamScan) ∨
      (s.ppu.statEn.getLsbD 3 = true ∧ t.ppu.ly = s.ppu.lyc.toNat)) ∧
    t.irq.ifl.getLsbD 1 = (s.irq.ifl.getLsbD 1 || (t.ppu.statLine && !s.ppu.statLine))

/-- Sprite selection takes the first ten sprites of the line in OAM order, by Y alone; the winner at a column is the
opaque sprite pixel of the line with the smallest X, and of those with equal X the one with the smallest OAM index
(62_ppu R520, R526). -/
def Obligations.spriteSelectionAndPriority : Prop :=
  (∀ (s : State) (l : List Nat), l = s.selectSprites.ppu.lineSprites →
    l.length ≤ 10 ∧ l.Pairwise (· < ·) ∧
    (∀ i ∈ l, i < 40 ∧ (Memory.read s.oam (4 * i)).toNat ≤ s.ppu.ly + 16 ∧
      s.ppu.ly + 16 < (Memory.read s.oam (4 * i)).toNat + (if s.ppu.lcdc.getLsbD 2 then 16 else 8)) ∧
    (∀ i, i < 40 → (Memory.read s.oam (4 * i)).toNat ≤ s.ppu.ly + 16 →
      s.ppu.ly + 16 < (Memory.read s.oam (4 * i)).toNat + (if s.ppu.lcdc.getLsbD 2 then 16 else 8) →
      i ∉ l → l.length = 10 ∧ ∀ j ∈ l, j < i)) ∧
  (∀ (s : State) (x : Nat),
    (∀ o, s.winningObj x = some o →
      (∃ i ∈ s.ppu.lineSprites, s.objPixel i x = some o) ∧
      ∀ i ∈ s.ppu.lineSprites, ∀ p, s.objPixel i x = some p → o.x < p.x ∨ (o.x = p.x ∧ o.index ≤ p.index)) ∧
    (s.winningObj x = none ↔ ∀ i ∈ s.ppu.lineSprites, s.objPixel i x = none))

/-- The joypad: a write of P1 stores bits 5:4 of the value and leaves the buttons, a host change sets the buttons and
leaves the selection; a read of P1 then shows the lines of the selected groups, 0 for pressed, and the Joypad interrupt is
requested exactly when a line falls; nothing else changes (63_io_devices R570, R571, R572). -/
def Obligations.joypadLinesAndRequest : Prop :=
  (∀ (s t : State) (v : Byte), t = s.busWrite 0xFF00 v →
    t.joypad.joySel = v.extractLsb' 4 2 ∧ t = { s with joypad := t.joypad, irq.ifl := t.irq.ifl }) ∧
  (∀ (s t : State) (b : Buttons), t = s.setButtons b →
    t.joypad.joySel = s.joypad.joySel ∧
      t = { s with joypad := t.joypad, irq.ifl := t.irq.ifl, host.pressed := b }) ∧
  (∀ (s t : State) (v : Byte) (b : Buttons), t = s.busWrite 0xFF00 v ∨ t = s.setButtons b →
    t.busRead 0xFF00 = 0b11#2 ++ t.joypad.joySel ++ t.joypad.joyLines ∧ t.joypad.joyLines = t.lines ∧
    (∀ k, k < 4 → (t.lines.getLsbD k = false ↔
      (t.joypad.joySel.getLsbD 0 = false ∧ t.host.pressed.dirPressed.getLsbD k = true) ∨
      (t.joypad.joySel.getLsbD 1 = false ∧ t.host.pressed.actPressed.getLsbD k = true))) ∧
    ((∃ k, k < 4 ∧ s.joypad.joyLines.getLsbD k = true ∧ t.joypad.joyLines.getLsbD k = false) →
      t.irq.ifl = s.irq.ifl ||| 16#5) ∧
    ((∀ k, k < 4 → s.joypad.joyLines.getLsbD k = true → t.joypad.joyLines.getLsbD k = true) → t.irq = s.irq))

/-- A serial transfer with the internal clock completes 4096 device cycles after it starts and not before: then SB is
0xFF, SC bit 7 is clear and the Serial interrupt is requested. Any other write of SC leaves no transfer running, and no
number of device cycles completes one (63_io_devices R574). -/
def Obligations.serialTransferCompletes : Prop :=
  ∀ (s t : State) (v : Byte), t = s.busWrite 0xFF02 v →
    (v.getLsbD 7 = true ∧ v.getLsbD 0 = true →
      (∀ n, n < 4096 → (t.deviceCycles n).serial.sb = s.serial.sb ∧ (t.deviceCycles n).serial.sc.getLsbD 7 = true ∧
        (t.deviceCycles n).serial.count = 4096 - n) ∧
      (t.deviceCycles 4096).serial.sb = 0xFF#8 ∧ (t.deviceCycles 4096).serial.sc.getLsbD 7 = false ∧
      (t.deviceCycles 4096).irq.ifl.getLsbD 3 = true) ∧
    (¬(v.getLsbD 7 = true ∧ v.getLsbD 0 = true) →
      t.serial.count = 0 ∧ t.serial.sb = s.serial.sb ∧ ∀ n, (t.deviceCycles n).serial = t.serial)

/-- OAM DMA: one write copies 160 bytes, read as the bus read them before the write with the lock ignored, from page
`v`, or from 0x2000 lower for the pages from 0xE0 on; nothing else changes but the DMA register (63_io_devices R576). -/
def Obligations.oamDmaCopies : Prop :=
  ∀ (s t : State) (v : Byte), t = s.busWrite 0xFF46 v →
    (∀ i, i < 160 → Memory.read t.oam i =
      s.dmaRead (BitVec.ofNat 16 ((if 0xE0 ≤ v.toNat then v.toNat - 0x20 else v.toNat) * 256 + i))) ∧
    (∀ i, 160 ≤ i → Memory.read t.oam i = Memory.read s.oam i) ∧
    t = { s with oam := t.oam, dmaReg := v } ∧ t.busRead 0xFF46 = v

/-- The HDMA engine. A block is 16 bytes: what a DMA read gives at the source goes to the destination in the bank VBK
selects, the rest of VRAM stays, and both addresses move on by 16. A write of HDMA5 with bit 7 set starts an H-blank copy;
one with bit 7 clear stops an active one, or else copies all its blocks at once. Once per device cycle, after the PPU, the
H-blank copy moves one block at each entry of a visible line into mode 0, the length counts down and the copy ends after
the block with length 0; otherwise nothing happens. The PPU marks such an entry exactly at the dot at which a line below
144 enters mode 0. HDMA5 reads the length, with bit 7 clear while a copy is active, and 0xFF at reset (63_io_devices R577,
R578, R579, R580, 62_ppu R514). The premise `aligned` is an invariant, `devicesInvariantKept`. -/
def Obligations.hblankDma : Prop :=
  (∀ (s t : State), s.hdma.aligned → t = s.copyBlock →
    s.copiedBlock t ∧ t = { s with vram := t.vram, hdma.src := t.hdma.src, hdma.dst := t.hdma.dst }) ∧
  (∀ (s : State) (v : Byte), s.cfg.hwMode = .cgb →
    s.busRead 0xFF55 = BitVec.ofBool (!s.hdma.active) ++ s.hdma.len ∧
    (v.getLsbD 7 = true → s.busWrite 0xFF55 v = { s with hdma.len := v.extractLsb' 0 7, hdma.active := true }) ∧
    (v.getLsbD 7 = false → s.hdma.active = true → s.busWrite 0xFF55 v = { s with hdma.active := false }) ∧
    (v.getLsbD 7 = false → s.hdma.active = false →
      s.busWrite 0xFF55 v = { State.copyBlock^[v.toNat % 128 + 1] s with hdma.len := 0x7F#7 })) ∧
  (∀ (cfg : Config) (d : InitialData), cfg.hwMode = .cgb → (State.resetFor cfg d).busRead 0xFF55 = 0xFF#8) ∧
  (∀ (s : State), s.deviceCycle = s.timerTick.ppuTick.serialTick.hdmaTick) ∧
  (∀ (s t : State), s.hdma.aligned → t = s.hdmaTick →
    (¬(s.hdma.active = true ∧ s.ppu.hblankEntered = true) → t = s) ∧
    (s.hdma.active = true → s.ppu.hblankEntered = true →
      s.copiedBlock t ∧ t = { s with vram := t.vram, hdma := t.hdma } ∧
      (s.hdma.len = 0#7 → t.hdma.active = false ∧ t.hdma.len = 0x7F#7) ∧
      (s.hdma.len ≠ 0#7 → t.hdma.active = true ∧ t.hdma.len = s.hdma.len - 1))) ∧
  (∀ (s t : State), t = s.ppuTick →
    (t.ppu.hblankEntered = true ↔
      s.ppu.lcdOn = true ∧ t.ppu.ly < 144 ∧ t.ppuMode = .hblank ∧ s.ppuMode ≠ .hblank) ∧
    (s.ppu.dot < 456 → 80 + s.cfg.mode3Len < 456 →
      (t.ppu.hblankEntered = true ↔ s.ppu.lcdOn = true ∧ t.ppu.ly < 144 ∧ t.ppu.dot = 80 + s.cfg.mode3Len)))


end
end

