-- ==== Sys2Proof/Laws/Memory.lean ====
section
/-!
SUPPORT. The laws of a memory region: reading after writing, and that writing keeps the canonical form and the size.
-/
namespace Sys2Proof

open Machine (Memory.within)

@[simp] theorem Memory.read_nil (k : Nat) : Memory.read [] k = Memory.unlisted := rfl

theorem Memory.read_cons (c : Host.Cell) (r : Memory) (k : Nat) :
    Memory.read (c :: r) k = if c.1 = k then c.2 else Memory.read r k := rfl

/-- Erasing an index makes it read as an unlisted one. -/
theorem Memory.read_erase_same (m : Memory) (k : Nat) : Memory.read (m.erase k) k = Memory.unlisted := by
  induction m with
  | nil => rfl
  | cons c r ih =>
    by_cases h : c.1 = k
    · simpa [Memory.erase, h] using ih
    · have hb : (c.1 != k) = true := by simpa using h
      simpa [Memory.erase, List.filter_cons, hb, Memory.read_cons, h] using ih

/-- Erasing an index changes no other index. -/
theorem Memory.read_erase_other (m : Memory) {k j : Nat} (hj : j ≠ k) : Memory.read (m.erase k) j = Memory.read m j := by
  induction m with
  | nil => rfl
  | cons c r ih =>
    by_cases h : c.1 = k
    · have hc : c.1 ≠ j := fun e => hj (e.symm.trans h)
      have hb : (c.1 != k) = false := by simpa using h
      simpa [Memory.erase, List.filter_cons, hb, Memory.read_cons, hc] using ih
    · have hb : (c.1 != k) = true := by simpa using h
      simp only [Memory.erase, List.filter_cons, hb, if_true, Memory.read_cons]
      exact if_congr Iff.rfl rfl ih

/-- A read of a region with one cell put in: that cell, or the region's. -/
theorem Memory.read_insert (m : Memory) (k : Nat) (v : Byte) (j : Nat) (hk : ∀ c ∈ m, c.1 ≠ k) :
    Memory.read (m.insert k v) j = if k = j then v else Memory.read m j := by
  induction m with
  | nil => rfl
  | cons c r ih =>
    have hr : ∀ c ∈ r, c.1 ≠ k := fun x hx => hk x (List.mem_cons_of_mem _ hx)
    have hc : c.1 ≠ k := hk c (List.mem_cons_self ..)
    simp only [Memory.insert]
    split
    · rfl
    · rw [Memory.read_cons, ih hr, Memory.read_cons]
      by_cases h : c.1 = j
      · rw [if_pos h, if_pos h, if_neg (fun e => hc (h.trans e.symm))]
      · rw [if_neg h, if_neg h]

theorem Memory.erase_ne (m : Memory) (k : Nat) : ∀ c ∈ m.erase k, c.1 ≠ k := by
  intro c hc
  simpa using (List.mem_filter.1 hc).2

/-- A read after a write to the same index gives the value written. -/
@[simp] theorem Memory.read_write_same (m : Memory) (k : Nat) (v : Byte) : Memory.read (m.write k v) k = v := by
  unfold Memory.write
  split
  · rename_i h; rw [Memory.read_erase_same, h]
  · rw [Memory.read_insert _ _ _ _ (Memory.erase_ne m k), if_pos rfl]

/-- A write leaves every other index alone. -/
theorem Memory.read_write_other (m : Memory) {k j : Nat} (v : Byte) (hj : j ≠ k) :
    Memory.read (m.write k v) j = Memory.read m j := by
  unfold Memory.write
  split
  · exact Memory.read_erase_other m hj
  · rw [Memory.read_insert _ _ _ _ (Memory.erase_ne m k), if_neg hj.symm, Memory.read_erase_other m hj]

/-- Both laws in one. -/
theorem Memory.read_write (m : Memory) (k j : Nat) (v : Byte) :
    Memory.read (m.write k v) j = if j = k then v else Memory.read m j := by
  split
  · rename_i h; rw [h, Memory.read_write_same]
  · rename_i h; exact Memory.read_write_other m v h

theorem Memory.mem_insert {m : Memory} {k : Nat} {v : Byte} {c : Host.Cell} (h : c ∈ m.insert k v) : c = (k, v) ∨ c ∈ m := by
  induction m with
  | nil => simpa [Memory.insert] using h
  | cons x r ih =>
    simp only [Memory.insert] at h
    split at h
    · simpa using h
    · rcases List.mem_cons.1 h with h | h
      · exact .inr (h ▸ List.mem_cons_self ..)
      · exact (ih h).imp id (List.mem_cons_of_mem _)

theorem Memory.insert_sorted {m : Memory} {k : Nat} (v : Byte) (hs : m.Pairwise (fun x y => x.1 < y.1))
    (hk : ∀ c ∈ m, c.1 ≠ k) : (m.insert k v).Pairwise (fun x y => x.1 < y.1) := by
  induction m with
  | nil => simp [Memory.insert]
  | cons c r ih =>
    have hr := List.pairwise_cons.1 hs
    have hc : c.1 ≠ k := hk c (List.mem_cons_self ..)
    simp only [Memory.insert]
    split
    · rename_i hlt
      refine List.pairwise_cons.2 ⟨fun x hx => ?_, hs⟩
      rcases List.mem_cons.1 hx with h | h
      · rw [h]; exact hlt
      · exact Nat.lt_trans hlt (hr.1 x h)
    · rename_i hnlt
      refine List.pairwise_cons.2 ⟨fun x hx => ?_, ih hr.2 fun x hx => hk x (List.mem_cons_of_mem _ hx)⟩
      rcases Memory.mem_insert hx with h | h
      · rw [h]; show c.1 < k; omega
      · exact hr.1 x h

/-- A write keeps the canonical form. -/
theorem Memory.write_wf {m : Memory} (h : m.wf) (k : Nat) (v : Byte) : (m.write k v).wf := by
  have he : (m.erase k).wf := ⟨h.1.filter _, fun c hc => h.2 c (List.mem_of_mem_filter hc)⟩
  unfold Memory.write
  split
  · exact he
  · rename_i hv
    refine ⟨Memory.insert_sorted v he.1 (Memory.erase_ne m k), fun c hc => ?_⟩
    rcases Memory.mem_insert hc with h | h
    · rw [h]; exact hv
    · exact he.2 c h

/-- A write below the size keeps every index below it. -/
theorem Memory.write_within {m : Memory} {n k : Nat} (h : Memory.within m n) (hk : k < n) (v : Byte) :
    Memory.within (m.write k v) n := by
  have he : Memory.within (m.erase k) n := fun c hc => h c (List.mem_of_mem_filter hc)
  unfold Memory.write
  split
  · exact he
  · intro c hc
    rcases Memory.mem_insert hc with h | h
    · rw [h]; exact hk
    · exact he c h

end Sys2Proof
end

