-- ==== Sys2Proof/Laws/State.lean ====
section
/-!
SUPPORT. One lemma for each field and each update of the state, so that no proof unfolds a record update.
-/
namespace Sys2Proof.Machine

@[simp] theorem State.setReg_cfg (s : State) (r : Reg8) (v : Byte) : (s.setReg r v).cfg = s.cfg := rfl
@[simp] theorem State.setReg_cpu (s : State) (r : Reg8) (v : Byte) : (s.setReg r v).cpu = s.cpu.setReg r v := rfl
@[simp] theorem State.setReg_irq (s : State) (r : Reg8) (v : Byte) : (s.setReg r v).irq = s.irq := rfl
@[simp] theorem State.setReg_timer (s : State) (r : Reg8) (v : Byte) : (s.setReg r v).timer = s.timer := rfl
@[simp] theorem State.setReg_ppu (s : State) (r : Reg8) (v : Byte) : (s.setReg r v).ppu = s.ppu := rfl
@[simp] theorem State.setReg_joypad (s : State) (r : Reg8) (v : Byte) : (s.setReg r v).joypad = s.joypad := rfl
@[simp] theorem State.setReg_serial (s : State) (r : Reg8) (v : Byte) : (s.setReg r v).serial = s.serial := rfl
@[simp] theorem State.setReg_hdma (s : State) (r : Reg8) (v : Byte) : (s.setReg r v).hdma = s.hdma := rfl
@[simp] theorem State.setReg_cart (s : State) (r : Reg8) (v : Byte) : (s.setReg r v).cart = s.cart := rfl
@[simp] theorem State.setReg_vram (s : State) (r : Reg8) (v : Byte) : (s.setReg r v).vram = s.vram := rfl
@[simp] theorem State.setReg_vbk (s : State) (r : Reg8) (v : Byte) : (s.setReg r v).vbk = s.vbk := rfl
@[simp] theorem State.setReg_wram (s : State) (r : Reg8) (v : Byte) : (s.setReg r v).wram = s.wram := rfl
@[simp] theorem State.setReg_svbk (s : State) (r : Reg8) (v : Byte) : (s.setReg r v).svbk = s.svbk := rfl
@[simp] theorem State.setReg_oam (s : State) (r : Reg8) (v : Byte) : (s.setReg r v).oam = s.oam := rfl
@[simp] theorem State.setReg_hram (s : State) (r : Reg8) (v : Byte) : (s.setReg r v).hram = s.hram := rfl
@[simp] theorem State.setReg_apu (s : State) (r : Reg8) (v : Byte) : (s.setReg r v).apu = s.apu := rfl
@[simp] theorem State.setReg_dmaReg (s : State) (r : Reg8) (v : Byte) : (s.setReg r v).dmaReg = s.dmaReg := rfl
@[simp] theorem State.setReg_host (s : State) (r : Reg8) (v : Byte) : (s.setReg r v).host = s.host := rfl

@[simp] theorem State.setPair_cfg (s : State) (p : Pair) (v : Word) : (s.setPair p v).cfg = s.cfg := rfl
@[simp] theorem State.setPair_cpu (s : State) (p : Pair) (v : Word) : (s.setPair p v).cpu = s.cpu.setPair p v := rfl
@[simp] theorem State.setPair_irq (s : State) (p : Pair) (v : Word) : (s.setPair p v).irq = s.irq := rfl
@[simp] theorem State.setPair_timer (s : State) (p : Pair) (v : Word) : (s.setPair p v).timer = s.timer := rfl
@[simp] theorem State.setPair_ppu (s : State) (p : Pair) (v : Word) : (s.setPair p v).ppu = s.ppu := rfl
@[simp] theorem State.setPair_joypad (s : State) (p : Pair) (v : Word) : (s.setPair p v).joypad = s.joypad := rfl
@[simp] theorem State.setPair_serial (s : State) (p : Pair) (v : Word) : (s.setPair p v).serial = s.serial := rfl
@[simp] theorem State.setPair_hdma (s : State) (p : Pair) (v : Word) : (s.setPair p v).hdma = s.hdma := rfl
@[simp] theorem State.setPair_cart (s : State) (p : Pair) (v : Word) : (s.setPair p v).cart = s.cart := rfl
@[simp] theorem State.setPair_vram (s : State) (p : Pair) (v : Word) : (s.setPair p v).vram = s.vram := rfl
@[simp] theorem State.setPair_vbk (s : State) (p : Pair) (v : Word) : (s.setPair p v).vbk = s.vbk := rfl
@[simp] theorem State.setPair_wram (s : State) (p : Pair) (v : Word) : (s.setPair p v).wram = s.wram := rfl
@[simp] theorem State.setPair_svbk (s : State) (p : Pair) (v : Word) : (s.setPair p v).svbk = s.svbk := rfl
@[simp] theorem State.setPair_oam (s : State) (p : Pair) (v : Word) : (s.setPair p v).oam = s.oam := rfl
@[simp] theorem State.setPair_hram (s : State) (p : Pair) (v : Word) : (s.setPair p v).hram = s.hram := rfl
@[simp] theorem State.setPair_apu (s : State) (p : Pair) (v : Word) : (s.setPair p v).apu = s.apu := rfl
@[simp] theorem State.setPair_dmaReg (s : State) (p : Pair) (v : Word) : (s.setPair p v).dmaReg = s.dmaReg := rfl
@[simp] theorem State.setPair_host (s : State) (p : Pair) (v : Word) : (s.setPair p v).host = s.host := rfl

@[simp] theorem State.setStackPair_cfg (s : State) (q : StackPair) (v : Word) : (s.setStackPair q v).cfg = s.cfg := rfl
@[simp] theorem State.setStackPair_cpu (s : State) (q : StackPair) (v : Word) : (s.setStackPair q v).cpu = s.cpu.setStackPair q v := rfl
@[simp] theorem State.setStackPair_irq (s : State) (q : StackPair) (v : Word) : (s.setStackPair q v).irq = s.irq := rfl
@[simp] theorem State.setStackPair_timer (s : State) (q : StackPair) (v : Word) : (s.setStackPair q v).timer = s.timer := rfl
@[simp] theorem State.setStackPair_ppu (s : State) (q : StackPair) (v : Word) : (s.setStackPair q v).ppu = s.ppu := rfl
@[simp] theorem State.setStackPair_joypad (s : State) (q : StackPair) (v : Word) : (s.setStackPair q v).joypad = s.joypad := rfl
@[simp] theorem State.setStackPair_serial (s : State) (q : StackPair) (v : Word) : (s.setStackPair q v).serial = s.serial := rfl
@[simp] theorem State.setStackPair_hdma (s : State) (q : StackPair) (v : Word) : (s.setStackPair q v).hdma = s.hdma := rfl
@[simp] theorem State.setStackPair_cart (s : State) (q : StackPair) (v : Word) : (s.setStackPair q v).cart = s.cart := rfl
@[simp] theorem State.setStackPair_vram (s : State) (q : StackPair) (v : Word) : (s.setStackPair q v).vram = s.vram := rfl
@[simp] theorem State.setStackPair_vbk (s : State) (q : StackPair) (v : Word) : (s.setStackPair q v).vbk = s.vbk := rfl
@[simp] theorem State.setStackPair_wram (s : State) (q : StackPair) (v : Word) : (s.setStackPair q v).wram = s.wram := rfl
@[simp] theorem State.setStackPair_svbk (s : State) (q : StackPair) (v : Word) : (s.setStackPair q v).svbk = s.svbk := rfl
@[simp] theorem State.setStackPair_oam (s : State) (q : StackPair) (v : Word) : (s.setStackPair q v).oam = s.oam := rfl
@[simp] theorem State.setStackPair_hram (s : State) (q : StackPair) (v : Word) : (s.setStackPair q v).hram = s.hram := rfl
@[simp] theorem State.setStackPair_apu (s : State) (q : StackPair) (v : Word) : (s.setStackPair q v).apu = s.apu := rfl
@[simp] theorem State.setStackPair_dmaReg (s : State) (q : StackPair) (v : Word) : (s.setStackPair q v).dmaReg = s.dmaReg := rfl
@[simp] theorem State.setStackPair_host (s : State) (q : StackPair) (v : Word) : (s.setStackPair q v).host = s.host := rfl

@[simp] theorem State.setF_cfg (s : State) (v : Byte) : (s.setF v).cfg = s.cfg := rfl
@[simp] theorem State.setF_cpu (s : State) (v : Byte) : (s.setF v).cpu = { s.cpu with f := clearLowNibble v } := rfl
@[simp] theorem State.setF_irq (s : State) (v : Byte) : (s.setF v).irq = s.irq := rfl
@[simp] theorem State.setF_timer (s : State) (v : Byte) : (s.setF v).timer = s.timer := rfl
@[simp] theorem State.setF_ppu (s : State) (v : Byte) : (s.setF v).ppu = s.ppu := rfl
@[simp] theorem State.setF_joypad (s : State) (v : Byte) : (s.setF v).joypad = s.joypad := rfl
@[simp] theorem State.setF_serial (s : State) (v : Byte) : (s.setF v).serial = s.serial := rfl
@[simp] theorem State.setF_hdma (s : State) (v : Byte) : (s.setF v).hdma = s.hdma := rfl
@[simp] theorem State.setF_cart (s : State) (v : Byte) : (s.setF v).cart = s.cart := rfl
@[simp] theorem State.setF_vram (s : State) (v : Byte) : (s.setF v).vram = s.vram := rfl
@[simp] theorem State.setF_vbk (s : State) (v : Byte) : (s.setF v).vbk = s.vbk := rfl
@[simp] theorem State.setF_wram (s : State) (v : Byte) : (s.setF v).wram = s.wram := rfl
@[simp] theorem State.setF_svbk (s : State) (v : Byte) : (s.setF v).svbk = s.svbk := rfl
@[simp] theorem State.setF_oam (s : State) (v : Byte) : (s.setF v).oam = s.oam := rfl
@[simp] theorem State.setF_hram (s : State) (v : Byte) : (s.setF v).hram = s.hram := rfl
@[simp] theorem State.setF_apu (s : State) (v : Byte) : (s.setF v).apu = s.apu := rfl
@[simp] theorem State.setF_dmaReg (s : State) (v : Byte) : (s.setF v).dmaReg = s.dmaReg := rfl
@[simp] theorem State.setF_host (s : State) (v : Byte) : (s.setF v).host = s.host := rfl

@[simp] theorem State.setPc_cfg (s : State) (v : Word) : (s.setPc v).cfg = s.cfg := rfl
@[simp] theorem State.setPc_cpu (s : State) (v : Word) : (s.setPc v).cpu = { s.cpu with pc := v } := rfl
@[simp] theorem State.setPc_irq (s : State) (v : Word) : (s.setPc v).irq = s.irq := rfl
@[simp] theorem State.setPc_timer (s : State) (v : Word) : (s.setPc v).timer = s.timer := rfl
@[simp] theorem State.setPc_ppu (s : State) (v : Word) : (s.setPc v).ppu = s.ppu := rfl
@[simp] theorem State.setPc_joypad (s : State) (v : Word) : (s.setPc v).joypad = s.joypad := rfl
@[simp] theorem State.setPc_serial (s : State) (v : Word) : (s.setPc v).serial = s.serial := rfl
@[simp] theorem State.setPc_hdma (s : State) (v : Word) : (s.setPc v).hdma = s.hdma := rfl
@[simp] theorem State.setPc_cart (s : State) (v : Word) : (s.setPc v).cart = s.cart := rfl
@[simp] theorem State.setPc_vram (s : State) (v : Word) : (s.setPc v).vram = s.vram := rfl
@[simp] theorem State.setPc_vbk (s : State) (v : Word) : (s.setPc v).vbk = s.vbk := rfl
@[simp] theorem State.setPc_wram (s : State) (v : Word) : (s.setPc v).wram = s.wram := rfl
@[simp] theorem State.setPc_svbk (s : State) (v : Word) : (s.setPc v).svbk = s.svbk := rfl
@[simp] theorem State.setPc_oam (s : State) (v : Word) : (s.setPc v).oam = s.oam := rfl
@[simp] theorem State.setPc_hram (s : State) (v : Word) : (s.setPc v).hram = s.hram := rfl
@[simp] theorem State.setPc_apu (s : State) (v : Word) : (s.setPc v).apu = s.apu := rfl
@[simp] theorem State.setPc_dmaReg (s : State) (v : Word) : (s.setPc v).dmaReg = s.dmaReg := rfl
@[simp] theorem State.setPc_host (s : State) (v : Word) : (s.setPc v).host = s.host := rfl

@[simp] theorem State.charge_cfg (s : State) (c : Nat) : (s.charge c).cfg = s.cfg := rfl
@[simp] theorem State.charge_cpu (s : State) (c : Nat) : (s.charge c).cpu = { s.cpu with cost := c } := rfl
@[simp] theorem State.charge_irq (s : State) (c : Nat) : (s.charge c).irq = s.irq := rfl
@[simp] theorem State.charge_timer (s : State) (c : Nat) : (s.charge c).timer = s.timer := rfl
@[simp] theorem State.charge_ppu (s : State) (c : Nat) : (s.charge c).ppu = s.ppu := rfl
@[simp] theorem State.charge_joypad (s : State) (c : Nat) : (s.charge c).joypad = s.joypad := rfl
@[simp] theorem State.charge_serial (s : State) (c : Nat) : (s.charge c).serial = s.serial := rfl
@[simp] theorem State.charge_hdma (s : State) (c : Nat) : (s.charge c).hdma = s.hdma := rfl
@[simp] theorem State.charge_cart (s : State) (c : Nat) : (s.charge c).cart = s.cart := rfl
@[simp] theorem State.charge_vram (s : State) (c : Nat) : (s.charge c).vram = s.vram := rfl
@[simp] theorem State.charge_vbk (s : State) (c : Nat) : (s.charge c).vbk = s.vbk := rfl
@[simp] theorem State.charge_wram (s : State) (c : Nat) : (s.charge c).wram = s.wram := rfl
@[simp] theorem State.charge_svbk (s : State) (c : Nat) : (s.charge c).svbk = s.svbk := rfl
@[simp] theorem State.charge_oam (s : State) (c : Nat) : (s.charge c).oam = s.oam := rfl
@[simp] theorem State.charge_hram (s : State) (c : Nat) : (s.charge c).hram = s.hram := rfl
@[simp] theorem State.charge_apu (s : State) (c : Nat) : (s.charge c).apu = s.apu := rfl
@[simp] theorem State.charge_dmaReg (s : State) (c : Nat) : (s.charge c).dmaReg = s.dmaReg := rfl
@[simp] theorem State.charge_host (s : State) (c : Nat) : (s.charge c).host = s.host := rfl

@[simp] theorem State.dropStack_cfg (s : State) : (s.dropStack).cfg = s.cfg := rfl
@[simp] theorem State.dropStack_cpu (s : State) : (s.dropStack).cpu = { s.cpu with sp := s.cpu.sp + 2 } := rfl
@[simp] theorem State.dropStack_irq (s : State) : (s.dropStack).irq = s.irq := rfl
@[simp] theorem State.dropStack_timer (s : State) : (s.dropStack).timer = s.timer := rfl
@[simp] theorem State.dropStack_ppu (s : State) : (s.dropStack).ppu = s.ppu := rfl
@[simp] theorem State.dropStack_joypad (s : State) : (s.dropStack).joypad = s.joypad := rfl
@[simp] theorem State.dropStack_serial (s : State) : (s.dropStack).serial = s.serial := rfl
@[simp] theorem State.dropStack_hdma (s : State) : (s.dropStack).hdma = s.hdma := rfl
@[simp] theorem State.dropStack_cart (s : State) : (s.dropStack).cart = s.cart := rfl
@[simp] theorem State.dropStack_vram (s : State) : (s.dropStack).vram = s.vram := rfl
@[simp] theorem State.dropStack_vbk (s : State) : (s.dropStack).vbk = s.vbk := rfl
@[simp] theorem State.dropStack_wram (s : State) : (s.dropStack).wram = s.wram := rfl
@[simp] theorem State.dropStack_svbk (s : State) : (s.dropStack).svbk = s.svbk := rfl
@[simp] theorem State.dropStack_oam (s : State) : (s.dropStack).oam = s.oam := rfl
@[simp] theorem State.dropStack_hram (s : State) : (s.dropStack).hram = s.hram := rfl
@[simp] theorem State.dropStack_apu (s : State) : (s.dropStack).apu = s.apu := rfl
@[simp] theorem State.dropStack_dmaReg (s : State) : (s.dropStack).dmaReg = s.dmaReg := rfl
@[simp] theorem State.dropStack_host (s : State) : (s.dropStack).host = s.host := rfl

@[simp] theorem State.lockUp_cfg (s : State) : (s.lockUp).cfg = s.cfg := rfl
@[simp] theorem State.lockUp_cpu (s : State) : (s.lockUp).cpu = { s.cpu with locked := true } := rfl
@[simp] theorem State.lockUp_irq (s : State) : (s.lockUp).irq = s.irq := rfl
@[simp] theorem State.lockUp_timer (s : State) : (s.lockUp).timer = s.timer := rfl
@[simp] theorem State.lockUp_ppu (s : State) : (s.lockUp).ppu = s.ppu := rfl
@[simp] theorem State.lockUp_joypad (s : State) : (s.lockUp).joypad = s.joypad := rfl
@[simp] theorem State.lockUp_serial (s : State) : (s.lockUp).serial = s.serial := rfl
@[simp] theorem State.lockUp_hdma (s : State) : (s.lockUp).hdma = s.hdma := rfl
@[simp] theorem State.lockUp_cart (s : State) : (s.lockUp).cart = s.cart := rfl
@[simp] theorem State.lockUp_vram (s : State) : (s.lockUp).vram = s.vram := rfl
@[simp] theorem State.lockUp_vbk (s : State) : (s.lockUp).vbk = s.vbk := rfl
@[simp] theorem State.lockUp_wram (s : State) : (s.lockUp).wram = s.wram := rfl
@[simp] theorem State.lockUp_svbk (s : State) : (s.lockUp).svbk = s.svbk := rfl
@[simp] theorem State.lockUp_oam (s : State) : (s.lockUp).oam = s.oam := rfl
@[simp] theorem State.lockUp_hram (s : State) : (s.lockUp).hram = s.hram := rfl
@[simp] theorem State.lockUp_apu (s : State) : (s.lockUp).apu = s.apu := rfl
@[simp] theorem State.lockUp_dmaReg (s : State) : (s.lockUp).dmaReg = s.dmaReg := rfl
@[simp] theorem State.lockUp_host (s : State) : (s.lockUp).host = s.host := rfl

@[simp] theorem State.resetDivider_cfg (s : State) : (s.resetDivider).cfg = s.cfg := rfl
@[simp] theorem State.resetDivider_cpu (s : State) : (s.resetDivider).cpu = s.cpu := rfl
@[simp] theorem State.resetDivider_irq (s : State) : (s.resetDivider).irq = s.irq := rfl
@[simp] theorem State.resetDivider_timer (s : State) : (s.resetDivider).timer = s.timer.resetDivider := rfl
@[simp] theorem State.resetDivider_ppu (s : State) : (s.resetDivider).ppu = s.ppu := rfl
@[simp] theorem State.resetDivider_joypad (s : State) : (s.resetDivider).joypad = s.joypad := rfl
@[simp] theorem State.resetDivider_serial (s : State) : (s.resetDivider).serial = s.serial := rfl
@[simp] theorem State.resetDivider_hdma (s : State) : (s.resetDivider).hdma = s.hdma := rfl
@[simp] theorem State.resetDivider_cart (s : State) : (s.resetDivider).cart = s.cart := rfl
@[simp] theorem State.resetDivider_vram (s : State) : (s.resetDivider).vram = s.vram := rfl
@[simp] theorem State.resetDivider_vbk (s : State) : (s.resetDivider).vbk = s.vbk := rfl
@[simp] theorem State.resetDivider_wram (s : State) : (s.resetDivider).wram = s.wram := rfl
@[simp] theorem State.resetDivider_svbk (s : State) : (s.resetDivider).svbk = s.svbk := rfl
@[simp] theorem State.resetDivider_oam (s : State) : (s.resetDivider).oam = s.oam := rfl
@[simp] theorem State.resetDivider_hram (s : State) : (s.resetDivider).hram = s.hram := rfl
@[simp] theorem State.resetDivider_apu (s : State) : (s.resetDivider).apu = s.apu := rfl
@[simp] theorem State.resetDivider_dmaReg (s : State) : (s.resetDivider).dmaReg = s.dmaReg := rfl
@[simp] theorem State.resetDivider_host (s : State) : (s.resetDivider).host = s.host := rfl

@[simp] theorem State.request_cfg (s : State) (k : IrqSource) : (s.request k).cfg = s.cfg := rfl
@[simp] theorem State.request_cpu (s : State) (k : IrqSource) : (s.request k).cpu = s.cpu := rfl
@[simp] theorem State.request_irq (s : State) (k : IrqSource) : (s.request k).irq = { s.irq with ifl := s.irq.ifl ||| k.mask } := rfl
@[simp] theorem State.request_timer (s : State) (k : IrqSource) : (s.request k).timer = s.timer := rfl
@[simp] theorem State.request_ppu (s : State) (k : IrqSource) : (s.request k).ppu = s.ppu := rfl
@[simp] theorem State.request_joypad (s : State) (k : IrqSource) : (s.request k).joypad = s.joypad := rfl
@[simp] theorem State.request_serial (s : State) (k : IrqSource) : (s.request k).serial = s.serial := rfl
@[simp] theorem State.request_hdma (s : State) (k : IrqSource) : (s.request k).hdma = s.hdma := rfl
@[simp] theorem State.request_cart (s : State) (k : IrqSource) : (s.request k).cart = s.cart := rfl
@[simp] theorem State.request_vram (s : State) (k : IrqSource) : (s.request k).vram = s.vram := rfl
@[simp] theorem State.request_vbk (s : State) (k : IrqSource) : (s.request k).vbk = s.vbk := rfl
@[simp] theorem State.request_wram (s : State) (k : IrqSource) : (s.request k).wram = s.wram := rfl
@[simp] theorem State.request_svbk (s : State) (k : IrqSource) : (s.request k).svbk = s.svbk := rfl
@[simp] theorem State.request_oam (s : State) (k : IrqSource) : (s.request k).oam = s.oam := rfl
@[simp] theorem State.request_hram (s : State) (k : IrqSource) : (s.request k).hram = s.hram := rfl
@[simp] theorem State.request_apu (s : State) (k : IrqSource) : (s.request k).apu = s.apu := rfl
@[simp] theorem State.request_dmaReg (s : State) (k : IrqSource) : (s.request k).dmaReg = s.dmaReg := rfl
@[simp] theorem State.request_host (s : State) (k : IrqSource) : (s.request k).host = s.host := rfl

@[simp] theorem State.acknowledge_cfg (s : State) (k : IrqSource) : (s.acknowledge k).cfg = s.cfg := rfl
@[simp] theorem State.acknowledge_cpu (s : State) (k : IrqSource) : (s.acknowledge k).cpu = s.cpu := rfl
@[simp] theorem State.acknowledge_irq (s : State) (k : IrqSource) : (s.acknowledge k).irq = { s.irq with ifl := s.irq.ifl &&& ~~~k.mask } := rfl
@[simp] theorem State.acknowledge_timer (s : State) (k : IrqSource) : (s.acknowledge k).timer = s.timer := rfl
@[simp] theorem State.acknowledge_ppu (s : State) (k : IrqSource) : (s.acknowledge k).ppu = s.ppu := rfl
@[simp] theorem State.acknowledge_joypad (s : State) (k : IrqSource) : (s.acknowledge k).joypad = s.joypad := rfl
@[simp] theorem State.acknowledge_serial (s : State) (k : IrqSource) : (s.acknowledge k).serial = s.serial := rfl
@[simp] theorem State.acknowledge_hdma (s : State) (k : IrqSource) : (s.acknowledge k).hdma = s.hdma := rfl
@[simp] theorem State.acknowledge_cart (s : State) (k : IrqSource) : (s.acknowledge k).cart = s.cart := rfl
@[simp] theorem State.acknowledge_vram (s : State) (k : IrqSource) : (s.acknowledge k).vram = s.vram := rfl
@[simp] theorem State.acknowledge_vbk (s : State) (k : IrqSource) : (s.acknowledge k).vbk = s.vbk := rfl
@[simp] theorem State.acknowledge_wram (s : State) (k : IrqSource) : (s.acknowledge k).wram = s.wram := rfl
@[simp] theorem State.acknowledge_svbk (s : State) (k : IrqSource) : (s.acknowledge k).svbk = s.svbk := rfl
@[simp] theorem State.acknowledge_oam (s : State) (k : IrqSource) : (s.acknowledge k).oam = s.oam := rfl
@[simp] theorem State.acknowledge_hram (s : State) (k : IrqSource) : (s.acknowledge k).hram = s.hram := rfl
@[simp] theorem State.acknowledge_apu (s : State) (k : IrqSource) : (s.acknowledge k).apu = s.apu := rfl
@[simp] theorem State.acknowledge_dmaReg (s : State) (k : IrqSource) : (s.acknowledge k).dmaReg = s.dmaReg := rfl
@[simp] theorem State.acknowledge_host (s : State) (k : IrqSource) : (s.acknowledge k).host = s.host := rfl

@[simp] theorem State.afterFetch_cfg (s : State) (n : Nat) : (s.afterFetch n).cfg = s.cfg := rfl
@[simp] theorem State.afterFetch_cpu (s : State) (n : Nat) : (s.afterFetch n).cpu = { s.cpu with pc := s.operandAddr + BitVec.ofNat 16 (n - 1), haltBug := false } := rfl
@[simp] theorem State.afterFetch_irq (s : State) (n : Nat) : (s.afterFetch n).irq = s.irq := rfl
@[simp] theorem State.afterFetch_timer (s : State) (n : Nat) : (s.afterFetch n).timer = s.timer := rfl
@[simp] theorem State.afterFetch_ppu (s : State) (n : Nat) : (s.afterFetch n).ppu = s.ppu := rfl
@[simp] theorem State.afterFetch_joypad (s : State) (n : Nat) : (s.afterFetch n).joypad = s.joypad := rfl
@[simp] theorem State.afterFetch_serial (s : State) (n : Nat) : (s.afterFetch n).serial = s.serial := rfl
@[simp] theorem State.afterFetch_hdma (s : State) (n : Nat) : (s.afterFetch n).hdma = s.hdma := rfl
@[simp] theorem State.afterFetch_cart (s : State) (n : Nat) : (s.afterFetch n).cart = s.cart := rfl
@[simp] theorem State.afterFetch_vram (s : State) (n : Nat) : (s.afterFetch n).vram = s.vram := rfl
@[simp] theorem State.afterFetch_vbk (s : State) (n : Nat) : (s.afterFetch n).vbk = s.vbk := rfl
@[simp] theorem State.afterFetch_wram (s : State) (n : Nat) : (s.afterFetch n).wram = s.wram := rfl
@[simp] theorem State.afterFetch_svbk (s : State) (n : Nat) : (s.afterFetch n).svbk = s.svbk := rfl
@[simp] theorem State.afterFetch_oam (s : State) (n : Nat) : (s.afterFetch n).oam = s.oam := rfl
@[simp] theorem State.afterFetch_hram (s : State) (n : Nat) : (s.afterFetch n).hram = s.hram := rfl
@[simp] theorem State.afterFetch_apu (s : State) (n : Nat) : (s.afterFetch n).apu = s.apu := rfl
@[simp] theorem State.afterFetch_dmaReg (s : State) (n : Nat) : (s.afterFetch n).dmaReg = s.dmaReg := rfl
@[simp] theorem State.afterFetch_host (s : State) (n : Nat) : (s.afterFetch n).host = s.host := rfl

/-! Conditional updates. -/

@[simp] theorem State.requestIf_cfg (s : State) (p : Bool) (k : IrqSource) : (s.requestIf p k).cfg = s.cfg := by
  unfold State.requestIf; split <;> rfl
@[simp] theorem State.requestIf_cpu (s : State) (p : Bool) (k : IrqSource) : (s.requestIf p k).cpu = s.cpu := by
  unfold State.requestIf; split <;> rfl
@[simp] theorem State.requestIf_timer (s : State) (p : Bool) (k : IrqSource) : (s.requestIf p k).timer = s.timer := by
  unfold State.requestIf; split <;> rfl
@[simp] theorem State.requestIf_ppu (s : State) (p : Bool) (k : IrqSource) : (s.requestIf p k).ppu = s.ppu := by
  unfold State.requestIf; split <;> rfl
@[simp] theorem State.requestIf_joypad (s : State) (p : Bool) (k : IrqSource) : (s.requestIf p k).joypad = s.joypad := by
  unfold State.requestIf; split <;> rfl
@[simp] theorem State.requestIf_serial (s : State) (p : Bool) (k : IrqSource) : (s.requestIf p k).serial = s.serial := by
  unfold State.requestIf; split <;> rfl
@[simp] theorem State.requestIf_hdma (s : State) (p : Bool) (k : IrqSource) : (s.requestIf p k).hdma = s.hdma := by
  unfold State.requestIf; split <;> rfl
@[simp] theorem State.requestIf_cart (s : State) (p : Bool) (k : IrqSource) : (s.requestIf p k).cart = s.cart := by
  unfold State.requestIf; split <;> rfl
@[simp] theorem State.requestIf_vram (s : State) (p : Bool) (k : IrqSource) : (s.requestIf p k).vram = s.vram := by
  unfold State.requestIf; split <;> rfl
@[simp] theorem State.requestIf_vbk (s : State) (p : Bool) (k : IrqSource) : (s.requestIf p k).vbk = s.vbk := by
  unfold State.requestIf; split <;> rfl
@[simp] theorem State.requestIf_wram (s : State) (p : Bool) (k : IrqSource) : (s.requestIf p k).wram = s.wram := by
  unfold State.requestIf; split <;> rfl
@[simp] theorem State.requestIf_svbk (s : State) (p : Bool) (k : IrqSource) : (s.requestIf p k).svbk = s.svbk := by
  unfold State.requestIf; split <;> rfl
@[simp] theorem State.requestIf_oam (s : State) (p : Bool) (k : IrqSource) : (s.requestIf p k).oam = s.oam := by
  unfold State.requestIf; split <;> rfl
@[simp] theorem State.requestIf_hram (s : State) (p : Bool) (k : IrqSource) : (s.requestIf p k).hram = s.hram := by
  unfold State.requestIf; split <;> rfl
@[simp] theorem State.requestIf_apu (s : State) (p : Bool) (k : IrqSource) : (s.requestIf p k).apu = s.apu := by
  unfold State.requestIf; split <;> rfl
@[simp] theorem State.requestIf_dmaReg (s : State) (p : Bool) (k : IrqSource) : (s.requestIf p k).dmaReg = s.dmaReg := by
  unfold State.requestIf; split <;> rfl
@[simp] theorem State.requestIf_host (s : State) (p : Bool) (k : IrqSource) : (s.requestIf p k).host = s.host := by
  unfold State.requestIf; split <;> rfl

@[simp] theorem State.finishEi_cfg (s : State) (p : Bool) : (s.finishEi p).cfg = s.cfg := by
  unfold State.finishEi; split <;> rfl
@[simp] theorem State.finishEi_irq (s : State) (p : Bool) : (s.finishEi p).irq = s.irq := by
  unfold State.finishEi; split <;> rfl
@[simp] theorem State.finishEi_timer (s : State) (p : Bool) : (s.finishEi p).timer = s.timer := by
  unfold State.finishEi; split <;> rfl
@[simp] theorem State.finishEi_ppu (s : State) (p : Bool) : (s.finishEi p).ppu = s.ppu := by
  unfold State.finishEi; split <;> rfl
@[simp] theorem State.finishEi_joypad (s : State) (p : Bool) : (s.finishEi p).joypad = s.joypad := by
  unfold State.finishEi; split <;> rfl
@[simp] theorem State.finishEi_serial (s : State) (p : Bool) : (s.finishEi p).serial = s.serial := by
  unfold State.finishEi; split <;> rfl
@[simp] theorem State.finishEi_hdma (s : State) (p : Bool) : (s.finishEi p).hdma = s.hdma := by
  unfold State.finishEi; split <;> rfl
@[simp] theorem State.finishEi_cart (s : State) (p : Bool) : (s.finishEi p).cart = s.cart := by
  unfold State.finishEi; split <;> rfl
@[simp] theorem State.finishEi_vram (s : State) (p : Bool) : (s.finishEi p).vram = s.vram := by
  unfold State.finishEi; split <;> rfl
@[simp] theorem State.finishEi_vbk (s : State) (p : Bool) : (s.finishEi p).vbk = s.vbk := by
  unfold State.finishEi; split <;> rfl
@[simp] theorem State.finishEi_wram (s : State) (p : Bool) : (s.finishEi p).wram = s.wram := by
  unfold State.finishEi; split <;> rfl
@[simp] theorem State.finishEi_svbk (s : State) (p : Bool) : (s.finishEi p).svbk = s.svbk := by
  unfold State.finishEi; split <;> rfl
@[simp] theorem State.finishEi_oam (s : State) (p : Bool) : (s.finishEi p).oam = s.oam := by
  unfold State.finishEi; split <;> rfl
@[simp] theorem State.finishEi_hram (s : State) (p : Bool) : (s.finishEi p).hram = s.hram := by
  unfold State.finishEi; split <;> rfl
@[simp] theorem State.finishEi_apu (s : State) (p : Bool) : (s.finishEi p).apu = s.apu := by
  unfold State.finishEi; split <;> rfl
@[simp] theorem State.finishEi_dmaReg (s : State) (p : Bool) : (s.finishEi p).dmaReg = s.dmaReg := by
  unfold State.finishEi; split <;> rfl
@[simp] theorem State.finishEi_host (s : State) (p : Bool) : (s.finishEi p).host = s.host := by
  unfold State.finishEi; split <;> rfl

@[simp] theorem State.wakeIf_cfg (s : State) (p : Bool) : (s.wakeIf p).cfg = s.cfg := by
  unfold State.wakeIf; split <;> rfl
@[simp] theorem State.wakeIf_irq (s : State) (p : Bool) : (s.wakeIf p).irq = s.irq := by
  unfold State.wakeIf; split <;> rfl
@[simp] theorem State.wakeIf_timer (s : State) (p : Bool) : (s.wakeIf p).timer = s.timer := by
  unfold State.wakeIf; split <;> rfl
@[simp] theorem State.wakeIf_ppu (s : State) (p : Bool) : (s.wakeIf p).ppu = s.ppu := by
  unfold State.wakeIf; split <;> rfl
@[simp] theorem State.wakeIf_joypad (s : State) (p : Bool) : (s.wakeIf p).joypad = s.joypad := by
  unfold State.wakeIf; split <;> rfl
@[simp] theorem State.wakeIf_serial (s : State) (p : Bool) : (s.wakeIf p).serial = s.serial := by
  unfold State.wakeIf; split <;> rfl
@[simp] theorem State.wakeIf_hdma (s : State) (p : Bool) : (s.wakeIf p).hdma = s.hdma := by
  unfold State.wakeIf; split <;> rfl
@[simp] theorem State.wakeIf_cart (s : State) (p : Bool) : (s.wakeIf p).cart = s.cart := by
  unfold State.wakeIf; split <;> rfl
@[simp] theorem State.wakeIf_vram (s : State) (p : Bool) : (s.wakeIf p).vram = s.vram := by
  unfold State.wakeIf; split <;> rfl
@[simp] theorem State.wakeIf_vbk (s : State) (p : Bool) : (s.wakeIf p).vbk = s.vbk := by
  unfold State.wakeIf; split <;> rfl
@[simp] theorem State.wakeIf_wram (s : State) (p : Bool) : (s.wakeIf p).wram = s.wram := by
  unfold State.wakeIf; split <;> rfl
@[simp] theorem State.wakeIf_svbk (s : State) (p : Bool) : (s.wakeIf p).svbk = s.svbk := by
  unfold State.wakeIf; split <;> rfl
@[simp] theorem State.wakeIf_oam (s : State) (p : Bool) : (s.wakeIf p).oam = s.oam := by
  unfold State.wakeIf; split <;> rfl
@[simp] theorem State.wakeIf_hram (s : State) (p : Bool) : (s.wakeIf p).hram = s.hram := by
  unfold State.wakeIf; split <;> rfl
@[simp] theorem State.wakeIf_apu (s : State) (p : Bool) : (s.wakeIf p).apu = s.apu := by
  unfold State.wakeIf; split <;> rfl
@[simp] theorem State.wakeIf_dmaReg (s : State) (p : Bool) : (s.wakeIf p).dmaReg = s.dmaReg := by
  unfold State.wakeIf; split <;> rfl
@[simp] theorem State.wakeIf_host (s : State) (p : Bool) : (s.wakeIf p).host = s.host := by
  unfold State.wakeIf; split <;> rfl

/-! The CPU's registers. -/

@[simp] theorem Cpu.setReg_f (u : Cpu) (r : Reg8) (v : Byte) : (u.setReg r v).f = u.f := by cases r <;> rfl
@[simp] theorem Cpu.setReg_sp (u : Cpu) (r : Reg8) (v : Byte) : (u.setReg r v).sp = u.sp := by cases r <;> rfl
@[simp] theorem Cpu.setReg_pc (u : Cpu) (r : Reg8) (v : Byte) : (u.setReg r v).pc = u.pc := by cases r <;> rfl
@[simp] theorem Cpu.setReg_ime (u : Cpu) (r : Reg8) (v : Byte) : (u.setReg r v).ime = u.ime := by cases r <;> rfl
@[simp] theorem Cpu.setReg_imePending (u : Cpu) (r : Reg8) (v : Byte) : (u.setReg r v).imePending = u.imePending := by cases r <;> rfl
@[simp] theorem Cpu.setReg_runMode (u : Cpu) (r : Reg8) (v : Byte) : (u.setReg r v).runMode = u.runMode := by cases r <;> rfl
@[simp] theorem Cpu.setReg_haltBug (u : Cpu) (r : Reg8) (v : Byte) : (u.setReg r v).haltBug = u.haltBug := by cases r <;> rfl
@[simp] theorem Cpu.setReg_locked (u : Cpu) (r : Reg8) (v : Byte) : (u.setReg r v).locked = u.locked := by cases r <;> rfl
@[simp] theorem Cpu.setReg_doubleSpeed (u : Cpu) (r : Reg8) (v : Byte) : (u.setReg r v).doubleSpeed = u.doubleSpeed := by cases r <;> rfl
@[simp] theorem Cpu.setReg_speedPrepare (u : Cpu) (r : Reg8) (v : Byte) : (u.setReg r v).speedPrepare = u.speedPrepare := by cases r <;> rfl
@[simp] theorem Cpu.setReg_cost (u : Cpu) (r : Reg8) (v : Byte) : (u.setReg r v).cost = u.cost := by cases r <;> rfl

@[simp] theorem Cpu.setPair_a (u : Cpu) (r : Pair) (v : Word) : (u.setPair r v).a = u.a := by cases r <;> rfl
@[simp] theorem Cpu.setPair_f (u : Cpu) (r : Pair) (v : Word) : (u.setPair r v).f = u.f := by cases r <;> rfl
@[simp] theorem Cpu.setPair_pc (u : Cpu) (r : Pair) (v : Word) : (u.setPair r v).pc = u.pc := by cases r <;> rfl
@[simp] theorem Cpu.setPair_ime (u : Cpu) (r : Pair) (v : Word) : (u.setPair r v).ime = u.ime := by cases r <;> rfl
@[simp] theorem Cpu.setPair_imePending (u : Cpu) (r : Pair) (v : Word) : (u.setPair r v).imePending = u.imePending := by cases r <;> rfl
@[simp] theorem Cpu.setPair_runMode (u : Cpu) (r : Pair) (v : Word) : (u.setPair r v).runMode = u.runMode := by cases r <;> rfl
@[simp] theorem Cpu.setPair_haltBug (u : Cpu) (r : Pair) (v : Word) : (u.setPair r v).haltBug = u.haltBug := by cases r <;> rfl
@[simp] theorem Cpu.setPair_locked (u : Cpu) (r : Pair) (v : Word) : (u.setPair r v).locked = u.locked := by cases r <;> rfl
@[simp] theorem Cpu.setPair_doubleSpeed (u : Cpu) (r : Pair) (v : Word) : (u.setPair r v).doubleSpeed = u.doubleSpeed := by cases r <;> rfl
@[simp] theorem Cpu.setPair_speedPrepare (u : Cpu) (r : Pair) (v : Word) : (u.setPair r v).speedPrepare = u.speedPrepare := by cases r <;> rfl
@[simp] theorem Cpu.setPair_cost (u : Cpu) (r : Pair) (v : Word) : (u.setPair r v).cost = u.cost := by cases r <;> rfl

@[simp] theorem Cpu.setStackPair_sp (u : Cpu) (r : StackPair) (v : Word) : (u.setStackPair r v).sp = u.sp := by cases r <;> rfl
@[simp] theorem Cpu.setStackPair_pc (u : Cpu) (r : StackPair) (v : Word) : (u.setStackPair r v).pc = u.pc := by cases r <;> rfl
@[simp] theorem Cpu.setStackPair_ime (u : Cpu) (r : StackPair) (v : Word) : (u.setStackPair r v).ime = u.ime := by cases r <;> rfl
@[simp] theorem Cpu.setStackPair_imePending (u : Cpu) (r : StackPair) (v : Word) : (u.setStackPair r v).imePending = u.imePending := by cases r <;> rfl
@[simp] theorem Cpu.setStackPair_runMode (u : Cpu) (r : StackPair) (v : Word) : (u.setStackPair r v).runMode = u.runMode := by cases r <;> rfl
@[simp] theorem Cpu.setStackPair_haltBug (u : Cpu) (r : StackPair) (v : Word) : (u.setStackPair r v).haltBug = u.haltBug := by cases r <;> rfl
@[simp] theorem Cpu.setStackPair_locked (u : Cpu) (r : StackPair) (v : Word) : (u.setStackPair r v).locked = u.locked := by cases r <;> rfl
@[simp] theorem Cpu.setStackPair_doubleSpeed (u : Cpu) (r : StackPair) (v : Word) : (u.setStackPair r v).doubleSpeed = u.doubleSpeed := by cases r <;> rfl
@[simp] theorem Cpu.setStackPair_speedPrepare (u : Cpu) (r : StackPair) (v : Word) : (u.setStackPair r v).speedPrepare = u.speedPrepare := by cases r <;> rfl
@[simp] theorem Cpu.setStackPair_cost (u : Cpu) (r : StackPair) (v : Word) : (u.setStackPair r v).cost = u.cost := by cases r <;> rfl

/-- A register read after a register write. -/
@[simp] theorem Cpu.getReg_setReg (u : Cpu) (r j : Reg8) (v : Byte) :
    (u.setReg r v).getReg j = if j = r then v else u.getReg j := by cases r <;> cases j <;> rfl

/-- The halves of a word give it back. -/
@[simp] theorem join_halves (w : Word) : join (hiByte w) (loByte w) = w := by
  unfold join hiByte loByte
  ext i hi
  simp only [BitVec.getElem_append, BitVec.getElem_extractLsb']
  split
  · simp [BitVec.getLsbD_eq_getElem hi]
  · rename_i h
    rw [show 8 + (i - 8) = i by omega, BitVec.getLsbD_eq_getElem hi]

@[simp] theorem hiByte_join (h l : Byte) : hiByte (join h l) = h := by
  unfold join hiByte
  ext i hi
  rw [BitVec.getElem_extractLsb', show (h ++ l : BitVec 16).getLsbD (8 + i) = _ from BitVec.getLsbD_append]
  simp [BitVec.getLsbD_eq_getElem hi]

@[simp] theorem loByte_join (h l : Byte) : loByte (join h l) = l := by
  unfold join loByte
  ext i hi
  rw [BitVec.getElem_extractLsb', show (h ++ l : BitVec 16).getLsbD (0 + i) = _ from BitVec.getLsbD_append]
  simp [hi]

/-- A pair read after it is written. -/
@[simp] theorem Cpu.getPair_setPair (u : Cpu) (p : Pair) (v : Word) : (u.setPair p v).getPair p = v := by
  cases p <;> simp [Cpu.setPair, Cpu.getPair]

/-- A flag byte has a zero low nibble, so F stores all of it. -/
@[simp] theorem clearLowNibble_flagByte (z n h c : Bool) : clearLowNibble (flagByte z n h c) = flagByte z n h c := by
  cases z <;> cases n <;> cases h <;> cases c <;> rfl

/-- What every write to F stores has a zero low nibble. -/
theorem clearLowNibble_low (v : Byte) : clearLowNibble v &&& 0x0F#8 = 0#8 := by
  unfold clearLowNibble
  rw [BitVec.and_assoc]
  show v &&& 0#8 = 0#8
  simp

@[simp] theorem flagByte_z (z n h c : Bool) : (flagByte z n h c).getLsbD 7 = z := by
  cases z <;> cases n <;> cases h <;> cases c <;> rfl

@[simp] theorem flagByte_n (z n h c : Bool) : (flagByte z n h c).getLsbD 6 = n := by
  cases z <;> cases n <;> cases h <;> cases c <;> rfl

@[simp] theorem flagByte_h (z n h c : Bool) : (flagByte z n h c).getLsbD 5 = h := by
  cases z <;> cases n <;> cases h <;> cases c <;> rfl

@[simp] theorem flagByte_c (z n h c : Bool) : (flagByte z n h c).getLsbD 4 = c := by
  cases z <;> cases n <;> cases h <;> cases c <;> rfl

end Sys2Proof.Machine
end

