-- ==== Sys2Proof/Laws/Bus.lean ====
section
/-!
SUPPORT. What the bus depends on and what it can change: a read sees of the CPU the two speed bits alone, a write changes of the CPU the
prepare bit alone, a DMA copy changes its destination memory alone.
-/
namespace Sys2Proof.Machine

/-- A bus read sees of the CPU the two bits of KEY1 alone. -/
theorem State.busRead_cpu (s : State) (u : Cpu) (hd : u.doubleSpeed = s.cpu.doubleSpeed)
    (hp : u.speedPrepare = s.cpu.speedPrepare) (a : Word) : State.busRead { s with cpu := u } a = s.busRead a := by
  show State.readPlace { s with cpu := u } true (s.place a) = s.readPlace true (s.place a)
  cases s.place a with
  | io r =>
    cases r with
    | key1 => simp only [State.readPlace, State.ioRead, hd, hp]
    | _ => rfl
  | _ => rfl

@[simp] theorem State.busRead_setReg (s : State) (r : Reg8) (v : Byte) (a : Word) : (s.setReg r v).busRead a = s.busRead a :=
  s.busRead_cpu _ (by simp) (by simp) a

@[simp] theorem State.busRead_setPair (s : State) (p : Pair) (v : Word) (a : Word) : (s.setPair p v).busRead a = s.busRead a :=
  s.busRead_cpu _ (by simp) (by simp) a

@[simp] theorem State.busRead_setStackPair (s : State) (q : StackPair) (v : Word) (a : Word) :
    (s.setStackPair q v).busRead a = s.busRead a := s.busRead_cpu _ (by simp) (by simp) a

@[simp] theorem State.busRead_setF (s : State) (v : Byte) (a : Word) : (s.setF v).busRead a = s.busRead a :=
  s.busRead_cpu _ rfl rfl a

@[simp] theorem State.busRead_setPc (s : State) (v : Word) (a : Word) : (s.setPc v).busRead a = s.busRead a :=
  s.busRead_cpu _ rfl rfl a

@[simp] theorem State.busRead_charge (s : State) (c : Nat) (a : Word) : (s.charge c).busRead a = s.busRead a :=
  s.busRead_cpu _ rfl rfl a

@[simp] theorem State.busRead_dropStack (s : State) (a : Word) : s.dropStack.busRead a = s.busRead a :=
  s.busRead_cpu _ rfl rfl a

@[simp] theorem State.busRead_afterFetch (s : State) (n : Nat) (a : Word) : (s.afterFetch n).busRead a = s.busRead a :=
  s.busRead_cpu _ rfl rfl a

/-- An OAM DMA copy changes OAM alone. -/
theorem State.oamCopy_changes (s : State) (src : Word) (n : Nat) :
    s.oamCopy src n = { s with oam := (s.oamCopy src n).oam } := by
  induction n with
  | zero => rfl
  | succ n ih => simp only [State.oamCopy]; rw [ih]

/-- An HDMA byte changes VRAM and the HDMA registers alone. -/
theorem State.hdmaBytes_changes (s : State) (n : Nat) :
    s.hdmaBytes n = { s with vram := (s.hdmaBytes n).vram, hdma := (s.hdmaBytes n).hdma } := by
  induction n with
  | zero => rfl
  | succ n ih => simp only [State.hdmaBytes, State.hdmaByte]; rw [ih]

/-- An HDMA block changes VRAM and the HDMA registers alone. -/
theorem State.copyBlock_changes (s : State) :
    s.copyBlock = { s with vram := s.copyBlock.vram, hdma := s.copyBlock.hdma } := State.hdmaBytes_changes s 16

/-- `n` bytes of HDMA copying move both addresses on by `n` (63_io_devices R577). -/
theorem State.hdmaBytes_addresses (s : State) (n : Nat) :
    (s.hdmaBytes n).hdma.src = s.hdma.src + BitVec.ofNat 16 n ∧ (s.hdmaBytes n).hdma.dst = s.hdma.dst + BitVec.ofNat 13 n := by
  induction n with
  | zero => simp [State.hdmaBytes]
  | succ n ih => simp only [State.hdmaBytes, State.hdmaByte, ih]; constructor <;> bv_omega

/-- `n` blocks are the block copied `n` times. -/
theorem State.copyBlocks_eq_iterate (s : State) (n : Nat) : s.copyBlocks n = State.copyBlock^[n] s := by
  induction n with
  | zero => rfl
  | succ n ih => rw [Function.iterate_succ_apply', ← ih]; rfl

/-- The cell that cartridge RAM selects is one the cartridge has (21_cartridge R140, R143, R149). -/
theorem State.cartRamIndex_lt {s : State} {a k : Nat} (h : s.cartRamIndex a = some k) : k < CartConfig.ramCells s.cfg.cart := by
  unfold State.cartRamIndex at h
  cases hv : s.cfg.cart.variant <;> simp only [hv, CartConfig.ramCells] at h ⊢
  case mbc2 => split at h <;> simp at h; omega
  all_goals
    split at h <;> (try split at h) <;> simp at h
    rename_i ha
    simp [State.ramAccessible] at ha
    exact h ▸ Nat.mod_lt _ ha.1

/-- HDMA blocks change VRAM and the HDMA registers alone. -/
theorem State.copyBlocks_changes (s : State) (n : Nat) :
    s.copyBlocks n = { s with vram := (s.copyBlocks n).vram, hdma := (s.copyBlocks n).hdma } := by
  induction n with
  | zero => rfl
  | succ n ih =>
    simp only [State.copyBlocks]
    rw [State.copyBlock_changes, ih]

/-- `evalJoypad()` changes the joypad lines and IF alone. -/
theorem State.evalJoypad_changes (s : State) :
    s.evalJoypad = { s with joypad := s.evalJoypad.joypad, irq := s.evalJoypad.irq } := by
  unfold State.evalJoypad State.requestIf State.request
  split <;> rfl

/-- A write to HDMA5 changes VRAM and the HDMA registers alone. -/
theorem State.hdma5Write_changes (s : State) (v : Byte) :
    s.hdma5Write v = { s with vram := (s.hdma5Write v).vram, hdma := (s.hdma5Write v).hdma } := by
  unfold State.hdma5Write
  split
  · rfl
  · split
    · rfl
    · dsimp only
      rw [State.copyBlocks_changes]

/-- A bus write changes of the CPU the prepare bit alone, and never the configuration. -/
theorem State.busWrite_cpu_cfg (s : State) (a : Word) (v : Byte) :
    (s.busWrite a v).cpu = { s.cpu with speedPrepare := (s.busWrite a v).cpu.speedPrepare } ∧
      (s.busWrite a v).cfg = s.cfg := by
  unfold State.busWrite State.writePlace
  cases s.place a with
  | rom k => dsimp only [State.cartControl]; split <;> exact ⟨rfl, rfl⟩
  | cartRam k =>
    dsimp only [State.cartRamWrite]
    split
    · exact ⟨rfl, rfl⟩
    · split <;> exact ⟨rfl, rfl⟩
  | vram k => dsimp only; split <;> exact ⟨rfl, rfl⟩
  | oam k => dsimp only; split <;> exact ⟨rfl, rfl⟩
  | io r =>
    cases r with
    | p1 => dsimp only [State.ioWrite, State.p1Write]; rw [State.evalJoypad_changes]; exact ⟨rfl, rfl⟩
    | dma => dsimp only [State.ioWrite, State.oamDma]; rw [State.oamCopy_changes]; exact ⟨rfl, rfl⟩
    | hdma5 => dsimp only [State.ioWrite]; rw [State.hdma5Write_changes]; exact ⟨rfl, rfl⟩
    | _ => exact ⟨rfl, rfl⟩
  | _ => exact ⟨rfl, rfl⟩

@[simp] theorem State.busWrite_cfg (s : State) (a : Word) (v : Byte) : (s.busWrite a v).cfg = s.cfg :=
  (s.busWrite_cpu_cfg a v).2

/-- Two CPUs that differ in the prepare bit alone have the same registers. -/
theorem State.busWrite_getReg (s : State) (a : Word) (v : Byte) (r : Reg8) : (s.busWrite a v).getReg r = s.getReg r := by
  unfold State.getReg
  rw [(s.busWrite_cpu_cfg a v).1]
  cases r <;> rfl

@[simp] theorem State.busWrite_f (s : State) (a : Word) (v : Byte) : (s.busWrite a v).cpu.f = s.cpu.f := by
  rw [(s.busWrite_cpu_cfg a v).1]

@[simp] theorem State.busWrite_sp (s : State) (a : Word) (v : Byte) : (s.busWrite a v).cpu.sp = s.cpu.sp := by
  rw [(s.busWrite_cpu_cfg a v).1]

@[simp] theorem State.busWrite_pc (s : State) (a : Word) (v : Byte) : (s.busWrite a v).cpu.pc = s.cpu.pc := by
  rw [(s.busWrite_cpu_cfg a v).1]

/-- A push changes of the CPU SP, which falls by 2, and the prepare bit. -/
theorem State.push16_cpu_cfg (s : State) (v : Word) :
    (s.push16 v).cpu = { s.cpu with sp := s.cpu.sp - 2, speedPrepare := (s.push16 v).cpu.speedPrepare } ∧
      (s.push16 v).cfg = s.cfg := by
  unfold State.push16 State.push8
  constructor
  · rw [(State.busWrite_cpu_cfg _ _ _).1]
    dsimp only
    rw [(State.busWrite_cpu_cfg _ _ _).1]
    dsimp only
    rw [show s.cpu.sp - 1 - 1 = s.cpu.sp - 2 by rw [BitVec.sub_sub]; rfl]
  · simp

/-- A CPU whose two speed bits are those of `s`. -/
def Cpu.sameSpeed (u v : Cpu) : Prop := u.doubleSpeed = v.doubleSpeed ∧ u.speedPrepare = v.speedPrepare

theorem State.dmaRead_cpu (s : State) (u : Cpu) (h : u.sameSpeed s.cpu) (a : Word) :
    State.dmaRead { s with cpu := u } a = s.dmaRead a := by
  show State.readPlace { s with cpu := u } false (s.place a) = s.readPlace false (s.place a)
  cases s.place a with
  | io r =>
    cases r with
    | key1 => simp only [State.readPlace, State.ioRead, h.1, h.2]
    | _ => rfl
  | _ => rfl

theorem State.oamCopy_cpu (s : State) (u : Cpu) (h : u.sameSpeed s.cpu) (src : Word) (n : Nat) :
    State.oamCopy { s with cpu := u } src n = { s.oamCopy src n with cpu := u } := by
  induction n with
  | zero => rfl
  | succ n ih =>
    simp only [State.oamCopy]
    rw [ih, State.dmaRead_cpu (s.oamCopy src n) u (by rw [State.oamCopy_changes]; exact h)]

theorem State.hdmaBytes_cpu (s : State) (u : Cpu) (h : u.sameSpeed s.cpu) (n : Nat) :
    State.hdmaBytes { s with cpu := u } n = { s.hdmaBytes n with cpu := u } := by
  induction n with
  | zero => rfl
  | succ n ih =>
    simp only [State.hdmaBytes, State.hdmaByte]
    rw [ih]
    dsimp only
    rw [State.dmaRead_cpu (s.hdmaBytes n) u (by rw [State.hdmaBytes_changes]; exact h)]

theorem State.copyBlocks_cpu (s : State) (u : Cpu) (h : u.sameSpeed s.cpu) (n : Nat) :
    State.copyBlocks { s with cpu := u } n = { s.copyBlocks n with cpu := u } := by
  induction n with
  | zero => rfl
  | succ n ih =>
    simp only [State.copyBlocks]
    rw [ih]
    exact State.hdmaBytes_cpu (s.copyBlocks n) u (by rw [State.copyBlocks_changes]; exact h) 16

theorem State.busWrite_cpu_core (s : State) (w : Cpu) (a : Word) (v : Byte) :
    State.busWrite { s with cpu := { w with doubleSpeed := s.cpu.doubleSpeed, speedPrepare := s.cpu.speedPrepare } } a v =
      { s.busWrite a v with
        cpu :=
          { w with doubleSpeed := s.cpu.doubleSpeed, speedPrepare := (s.busWrite a v).cpu.speedPrepare } } := by
  have hs : ({ w with doubleSpeed := s.cpu.doubleSpeed, speedPrepare := s.cpu.speedPrepare } : Cpu).sameSpeed s.cpu :=
    ⟨rfl, rfl⟩
  show State.writePlace _ (s.place a) v = { s.writePlace (s.place a) v with
    cpu := { w with doubleSpeed := s.cpu.doubleSpeed, speedPrepare := (s.writePlace (s.place a) v).cpu.speedPrepare } }
  cases s.place a with
  | rom k =>
    simp only [State.writePlace, State.cartControl]
    cases s.cfg.cart.variant <;> rfl
  | cartRam k =>
    simp only [State.writePlace, State.cartRamWrite]
    rw [show State.cartRamIndex { s with
      cpu := { w with doubleSpeed := s.cpu.doubleSpeed, speedPrepare := s.cpu.speedPrepare } } k = s.cartRamIndex k from rfl]
    cases s.cartRamIndex k with
    | none => rfl
    | some j =>
      rw [show State.cartRamStored { s with
        cpu := { w with doubleSpeed := s.cpu.doubleSpeed, speedPrepare := s.cpu.speedPrepare } } v = s.cartRamStored v from rfl]
      dsimp only
      split <;> rfl
  | vram k =>
    simp only [State.writePlace]
    rw [show State.vramLocked { s with
      cpu := { w with doubleSpeed := s.cpu.doubleSpeed, speedPrepare := s.cpu.speedPrepare } } = s.vramLocked from rfl]
    split <;> rfl
  | oam k =>
    simp only [State.writePlace]
    rw [show State.oamLocked { s with
      cpu := { w with doubleSpeed := s.cpu.doubleSpeed, speedPrepare := s.cpu.speedPrepare } } = s.oamLocked from rfl]
    split <;> rfl
  | io r =>
    cases r with
    | p1 =>
      simp only [State.writePlace, State.ioWrite, State.p1Write, State.evalJoypad, State.requestIf, State.request]
      rw [show State.lines { s with
          cpu := { w with doubleSpeed := s.cpu.doubleSpeed, speedPrepare := s.cpu.speedPrepare }
          joypad.joySel := v.extractLsb' 4 2 } =
        State.lines { s with joypad.joySel := v.extractLsb' 4 2 } from rfl]
      split <;> rfl
    | dma =>
      have h := State.oamCopy_cpu { s with dmaReg := v } _ hs (oamDmaSource v) 160
      have h' := State.oamCopy_changes { s with dmaReg := v } (oamDmaSource v) 160
      simp only [State.writePlace, State.ioWrite, State.oamDma]
      refine h.trans ?_
      rw [h']
    | hdma5 =>
      have h := State.copyBlocks_cpu s _ hs ((v.extractLsb' 0 7).toNat + 1)
      have h' := State.copyBlocks_changes s ((v.extractLsb' 0 7).toNat + 1)
      simp only [State.writePlace, State.ioWrite, State.hdma5Write]
      rw [h]
      split
      · rfl
      · split
        · rfl
        · rw [h']
    | _ => rfl
  | _ => rfl

/-- A bus write does the same whatever the CPU's registers are: it sees of the CPU the two speed bits alone. -/
theorem State.busWrite_cpu (s : State) (u : Cpu) (h : u.sameSpeed s.cpu) (a : Word) (v : Byte) :
    State.busWrite { s with cpu := u } a v =
      { s.busWrite a v with cpu := { u with speedPrepare := (s.busWrite a v).cpu.speedPrepare } } := by
  have hc := State.busWrite_cpu_core s u a v
  rw [← h.1, ← h.2] at hc
  exact hc

/-- A write of a plain place leaves every address of another place reading as before. -/
theorem State.busRead_busWrite_other (s : State) {a b : Word} (v : Byte) (hp : (s.place a).plain = true)
    (hb : s.place b ≠ s.place a) : (s.busWrite a v).busRead b = s.busRead b := by
  unfold State.busWrite
  cases ha : s.place a with
  | rom k => rw [ha] at hp; cases hp
  | cartRam k => rw [ha] at hp; cases hp
  | io r => rw [ha] at hp; cases hp
  | unusable => rfl
  | unmapped => rfl
  | vram k =>
    dsimp only [State.writePlace]
    split
    · rfl
    · show State.readPlace { s with vram := Memory.write s.vram k v } true (s.place b) = s.readPlace true (s.place b)
      cases hc : s.place b with
      | vram j =>
        have hj : j ≠ k := fun e => hb (by rw [hc, ha, e])
        simp only [State.readPlace, Memory.read_write_other _ _ hj]
        rfl
      | io r => cases r <;> rfl
      | _ => rfl
  | oam k =>
    dsimp only [State.writePlace]
    split
    · rfl
    · show State.readPlace { s with oam := Memory.write s.oam k v } true (s.place b) = s.readPlace true (s.place b)
      cases hc : s.place b with
      | oam j =>
        have hj : j ≠ k := fun e => hb (by rw [hc, ha, e])
        simp only [State.readPlace, Memory.read_write_other _ _ hj]
        rfl
      | io r => cases r <;> rfl
      | _ => rfl
  | wram k =>
    show State.readPlace { s with wram := Memory.write s.wram k v } true (s.place b) = s.readPlace true (s.place b)
    cases hc : s.place b with
    | wram j =>
      have hj : j ≠ k := fun e => hb (by rw [hc, ha, e])
      simp only [State.readPlace, Memory.read_write_other _ _ hj]
    | io r => cases r <;> rfl
    | _ => rfl
  | hram k =>
    show State.readPlace { s with hram := Memory.write s.hram k v } true (s.place b) = s.readPlace true (s.place b)
    cases hc : s.place b with
    | hram j =>
      have hj : j ≠ k := fun e => hb (by rw [hc, ha, e])
      simp only [State.readPlace, Memory.read_write_other _ _ hj]
    | io r => cases r <;> rfl
    | _ => rfl
  | ie =>
    show State.readPlace { s with irq.ie := v } true (s.place b) = s.readPlace true (s.place b)
    cases hc : s.place b with
    | ie => exact absurd (hc.trans ha.symm) hb
    | io r => cases r <;> rfl
    | _ => rfl

/-- A write that is stored reads back. -/
theorem State.busRead_busWrite_same (s : State) {a : Word} (v : Byte) (hs : s.stores (s.place a) = true) :
    (s.busWrite a v).busRead a = v := by
  unfold State.busWrite
  cases ha : s.place a with
  | vram k =>
    rw [ha] at hs
    have hl : s.vramLocked = false := by simpa [State.stores] using hs
    simp only [State.writePlace, hl, Bool.false_eq_true, if_false]
    show State.readPlace { s with vram := Memory.write s.vram k v } true (s.place a) = v
    rw [ha]
    simp only [State.readPlace, Memory.read_write_same]
    rw [show State.vramLocked { s with vram := Memory.write s.vram k v } = s.vramLocked from rfl, hl]
    rfl
  | oam k =>
    rw [ha] at hs
    have hl : s.oamLocked = false := by simpa [State.stores] using hs
    simp only [State.writePlace, hl, Bool.false_eq_true, if_false]
    show State.readPlace { s with oam := Memory.write s.oam k v } true (s.place a) = v
    rw [ha]
    simp only [State.readPlace, Memory.read_write_same]
    rw [show State.oamLocked { s with oam := Memory.write s.oam k v } = s.oamLocked from rfl, hl]
    rfl
  | wram k =>
    show State.readPlace { s with wram := Memory.write s.wram k v } true (s.place a) = v
    rw [ha]
    simp only [State.readPlace, Memory.read_write_same]
  | hram k =>
    show State.readPlace { s with hram := Memory.write s.hram k v } true (s.place a) = v
    rw [ha]
    simp only [State.readPlace, Memory.read_write_same]
  | ie =>
    show State.readPlace { s with irq.ie := v } true (s.place a) = v
    rw [ha]
    rfl
  | _ => rw [ha] at hs; cases hs

/-- A write of a plain place leaves the address decoder, the locks and so what is stored where alone. -/
theorem State.busWrite_plain_keeps (s : State) {a : Word} (v : Byte) (hp : (s.place a).plain = true) :
    (∀ b, (s.busWrite a v).place b = s.place b) ∧ (∀ p, (s.busWrite a v).stores p = s.stores p) := by
  unfold State.busWrite
  cases ha : s.place a with
  | rom k => rw [ha] at hp; cases hp
  | cartRam k => rw [ha] at hp; cases hp
  | io r => rw [ha] at hp; cases hp
  | vram k => dsimp only [State.writePlace]; split <;> exact ⟨fun _ => rfl, fun _ => rfl⟩
  | oam k => dsimp only [State.writePlace]; split <;> exact ⟨fun _ => rfl, fun _ => rfl⟩
  | _ => exact ⟨fun _ => rfl, fun _ => rfl⟩

end Sys2Proof.Machine
end

