-- ==== Sys2Proof/Laws/Devices.lean ====
section
/-!
SUPPORT. What each device can change in a device cycle, and what the device part of a step leaves alone.
-/
namespace Sys2Proof.Machine

/-- A timer cycle changes the timer and IF alone. -/
theorem State.timerTick_changes (s : State) :
    s.timerTick = { s with timer := s.timerTick.timer, irq := s.timerTick.irq } := by
  unfold State.timerTick State.requestIf State.request
  split <;> rfl

/-- A serial cycle changes the serial port and IF alone. -/
theorem State.serialTick_changes (s : State) :
    s.serialTick = { s with serial := s.serialTick.serial, irq := s.serialTick.irq } := by
  unfold State.serialTick
  split
  · rfl
  · split <;> rfl

/-- An HDMA cycle changes VRAM and the HDMA registers alone. -/
theorem State.hdmaTick_changes (s : State) :
    s.hdmaTick = { s with vram := s.hdmaTick.vram, hdma := s.hdmaTick.hdma } := by
  unfold State.hdmaTick
  split
  · have h := s.copyBlock_changes
    generalize s.copyBlock = t at h
    generalize t.vram = x at h
    generalize t.hdma = y at h
    subst h
    dsimp only
    split <;> rfl
  · rfl

/-- `evalStatLine()` changes the STAT line and IF alone. -/
theorem State.evalStatLine_changes (s : State) :
    s.evalStatLine = { s with ppu := s.evalStatLine.ppu, irq := s.evalStatLine.irq } := by
  unfold State.evalStatLine State.requestIf State.request
  dsimp only
  split <;> rfl

/-- Entering a mode changes the PPU, IF and the frames handed off alone. -/
theorem State.enterMode_changes (s : State) (m : PpuMode) :
    s.enterMode m =
      { s with ppu := (s.enterMode m).ppu, irq := (s.enterMode m).irq, host := (s.enterMode m).host } := by
  unfold State.enterMode
  cases m with
  | hblank => dsimp only; split <;> rfl
  | _ => rfl

/-- A PPU dot changes the PPU, IF and the frames handed off alone. -/
theorem State.ppuTick_changes (s : State) :
    s.ppuTick = { s with ppu := s.ppuTick.ppu, irq := s.ppuTick.irq, host := s.ppuTick.host } := by
  unfold State.ppuTick
  dsimp only
  split
  · rfl
  · rw [State.evalStatLine_changes]
    split
    · rfl
    · rw [State.enterMode_changes]

/-- A device cycle leaves the CPU and the configuration alone. -/
theorem State.deviceCycle_cpu_cfg (s : State) : s.deviceCycle.cpu = s.cpu ∧ s.deviceCycle.cfg = s.cfg := by
  unfold State.deviceCycle
  rw [State.hdmaTick_changes, State.serialTick_changes, State.ppuTick_changes, State.timerTick_changes]
  exact ⟨rfl, rfl⟩

/-- The device part of a step leaves the CPU and the configuration alone. -/
theorem State.deviceCycles_cpu_cfg (s : State) (n : Nat) :
    (s.deviceCycles n).cpu = s.cpu ∧ (s.deviceCycles n).cfg = s.cfg := by
  induction n with
  | zero => exact ⟨rfl, rfl⟩
  | succ n ih =>
    exact ⟨(State.deviceCycle_cpu_cfg _).1.trans ih.1, (State.deviceCycle_cpu_cfg _).2.trans ih.2⟩

/-- What every device cycle keeps, the device part of a step keeps. -/
theorem State.deviceCycles_keep {p : State → Prop} (h : ∀ s, p s → p s.deviceCycle) {s : State} (hs : p s) (n : Nat) :
    p (s.deviceCycles n) := by
  induction n with
  | zero => exact hs
  | succ n ih => exact h _ ih

/-- The host's move changes the joypad, IF and the host side alone. -/
theorem State.takeHostInput_changes (s : State) :
    s.takeHostInput =
      { s with joypad := s.takeHostInput.joypad, irq := s.takeHostInput.irq, host := s.takeHostInput.host } := by
  unfold State.takeHostInput
  split
  · rfl
  · rfl
  · rw [State.setButtons, State.evalJoypad_changes]

end Sys2Proof.Machine
end

