-- ==== Sys2Proof/Laws/Step.lean ====
section
/-!
SUPPORT. What a CPU step and a system step can do, said once.
-/
namespace Sys2Proof.Machine

/-- A system step that answers ran a CPU step that answers, and then the devices. -/
theorem step_next {s t : State} (h : step s = .next t) : ∃ u, s.takeHostInput.cpuStep = .next u ∧ t = u.runDevices := by
  unfold step at h
  split at h
  · rename_i u hu
    exact ⟨u, hu, (Host.Outcome.next.inj h).symm⟩
  · cases h
  · cases h

/-- The cases of a CPU step, in the order of their tests (60_exceptions R437). -/
theorem State.cpuStep_cases (s : State) :
    (s.cpu.locked = true ∧ s.cpuStep = .next (s.charge 4)) ∨
    (s.cpu.locked = false ∧ s.cpu.runMode = .stopped ∧ s.cpuStep = .next ((s.wakeIf s.joypadLineLow).charge 4)) ∨
    (s.cpu.locked = false ∧ s.cpu.runMode = .halted ∧ s.cpuStep = .next ((s.wakeIf (decide (s.pend ≠ 0#5))).charge 4)) ∨
    (∃ k, s.cpu.locked = false ∧ s.cpu.runMode = .running ∧ s.interruptDue = some k ∧ s.cpuStep = .next (s.dispatch k)) ∨
    (s.cpu.locked = false ∧ s.cpu.runMode = .running ∧ s.interruptDue = none ∧ s.cpuStep = s.instructionStep) := by
  unfold State.cpuStep
  cases hl : s.cpu.locked with
  | true => exact .inl ⟨rfl, rfl⟩
  | false =>
    cases hm : s.cpu.runMode with
    | stopped => exact .inr (.inl ⟨rfl, rfl, rfl⟩)
    | halted => exact .inr (.inr (.inl ⟨rfl, rfl, rfl⟩))
    | running =>
      cases hi : s.interruptDue with
      | some k => exact .inr (.inr (.inr (.inl ⟨k, rfl, rfl, rfl, rfl⟩)))
      | none => exact .inr (.inr (.inr (.inr ⟨rfl, rfl, rfl, rfl⟩)))

/-- The instruction case, once the fetch window is decoded (60_exceptions R437). -/
theorem State.instructionStep_of_decode {s : State} {i : Instr} {rest : List Byte}
    (h : decode s.fetchWindow = .ok (i, rest)) {t : State} (he : exec i (s.afterFetch (3 - rest.length)) = .next t) :
    s.instructionStep = .next (t.finishEi s.cpu.imePending) := by
  unfold State.instructionStep
  rw [h]
  dsimp only
  rw [he]

end Sys2Proof.Machine
end

