-- ==== Sys2Proof/Tests/Slice0.lean ====
section
/-!
SUPPORT. Tests. The expected results come from spec/: the words from the Encoding line of each rule, the one-step results from the
vectors of 95_test_vectors (a name test_A1_… is row V-A1), the device results from its part 4. Then the witnesses: for each
obligation with hypotheses a state and operands that meet them.
-/
namespace Sys2Proof.Tests
open Sys2Proof Sys2Proof.Machine

set_option maxRecDepth 8000

/-- The start state of 95_test_vectors part 0.1. -/
def start : State := { State.reset with ppu.lcdc := 0x00, timer.div := 0x0000, cpu.pc := 0xC000 }

/-- The start state of 95_test_vectors part 4.8. -/
def startCgb : State :=
  { State.resetFor { Config.default with hwMode := .cgb } InitialData.default with
    ppu.lcdc := 0x00, timer.div := 0x0000, cpu.pc := 0xC000 }

/-- Whether a result is a next state with the property. -/
def ends (r : Result) (p : State → Bool) : Bool :=
  match r with
  | .next t => p t
  | .fault _ => false
  | .refused _ => false

/-- Whether one step answers a next state with the property. -/
def runs (s : State) (p : State → Bool) : Bool := ends (step s) p

/-! ## Well-formedness -/

theorem test_wellFormed_refuses_prefix_term : (Instr.prefixCB 0x37).wellFormed = false := by decide

theorem test_wellFormed_accepts_words :
    (Instr.swap_A).wellFormed = true ∧ (Instr.stop 0xFF).wellFormed = true ∧ (Instr.illegal_FD).wellFormed = true ∧
      (Instr.ld_mnn_SP 0xFFFF).wellFormed = true := by decide

/-! ## Decoding: words written out from the spec -/

/-- 30_encoding R180, 40_load8 R221, R222, R228, R230, R238: `01 ddd sss`, `00 ddd 110` and an immediate, and so on. -/
theorem test_decode_load8 :
    decode [0b01111000] = .ok (.ld_A_B, []) ∧ decode [0b00101110, 0x99, 0x00] = .ok (.ld_L_n 0x99, [0x00]) ∧
      decode [0b01100110] = .ok (.ld_H_mHL, []) ∧ decode [0b01110101] = .ok (.ld_mHL_L, []) ∧
      decode [0x36, 0xFF] = .ok (.ld_mHL_n 0xFF, []) ∧ decode [0x02] = .ok (.ld_mBC_A, []) ∧
      decode [0xFA, 0x23, 0xE1] = .ok (.ld_A_mnn 0xE123, []) ∧ decode [0xE0, 0x80] = .ok (.ldh_mn_A 0x80, []) ∧
      decode [0xF2] = .ok (.ldh_A_mC, []) ∧ decode [0x2A] = .ok (.ld_A_mHLI, []) := by decide

/-- 41_load16_stack R261 to R267. -/
theorem test_decode_load16_and_stack :
    decode [0b00110001, 0x34, 0x12] = .ok (.ld_SP_nn 0x1234, []) ∧ decode [0x08, 0x00, 0xC1] = .ok (.ld_mnn_SP 0xC100, []) ∧
      decode [0xF9] = .ok (.ld_SP_HL, []) ∧ decode [0xF8, 0xFF] = .ok (.ld_HL_SPe 0xFF, []) ∧
      decode [0b11110101] = .ok (.push_AF, []) ∧ decode [0b11010001] = .ok (.pop_DE, []) := by decide

/-- 42_alu8 R281 to R312. -/
theorem test_decode_alu8 :
    decode [0b10000111] = .ok (.add_A_A, []) ∧ decode [0b11001110, 0x01] = .ok (.adc_A_n 0x01, []) ∧
      decode [0b10010110] = .ok (.sub_mHL, []) ∧ decode [0b10011001] = .ok (.sbc_A_C, []) ∧
      decode [0b10100010] = .ok (.and_D, []) := by decide

/-- 42_alu8 R296 to R312. -/
theorem test_decode_alu8_more :
    decode [0b11101110, 0x0F] = .ok (.xor_n 0x0F, []) ∧
      decode [0b10110110] = .ok (.or_mHL, []) ∧ decode [0b10111101] = .ok (.cp_L, []) ∧
      decode [0b00110100] = .ok (.inc_mHL, []) ∧ decode [0b00111101] = .ok (.dec_A, []) ∧
      decode [0x27] = .ok (.daa, []) ∧ decode [0x2F] = .ok (.cpl, []) := by decide

/-- 43_alu16 R331 to R334. -/
theorem test_decode_alu16 :
    decode [0b00101001] = .ok (.add_HL_HL, []) ∧ decode [0b00110011] = .ok (.inc_SP, []) ∧
      decode [0b00011011] = .ok (.dec_DE, []) ∧ decode [0xE8, 0x80] = .ok (.add_SP_e 0x80, []) := by decide

/-- 44_rotate_shift R341 to R360, 45_bit R371 to R376. -/
theorem test_decode_rotate_and_bit :
    decode [0x1F] = .ok (.rra, []) ∧ decode [0xCB, 0b00001110] = .ok (.rrc_mHL, []) ∧
      decode [0xCB, 0b00101000] = .ok (.sra_B, []) ∧ decode [0xCB, 0b00111111] = .ok (.srl_A, []) ∧
      decode [0xCB, 0b01111100] = .ok (.bit_7_H, []) ∧ decode [0xCB, 0b10000110] = .ok (.res_0_mHL, []) ∧
      decode [0xCB, 0b11011010] = .ok (.set_3_D, []) := by decide

/-- 46_control R381 to R391. -/
theorem test_decode_control :
    decode [0xC3, 0x50, 0x01] = .ok (.jp_nn 0x0150, []) ∧ decode [0b11011010, 0x00, 0x40] = .ok (.jp_C_nn 0x4000, []) ∧
      decode [0xE9] = .ok (.jp_HL, []) ∧ decode [0b00110000, 0x05] = .ok (.jr_NC_e 0x05, []) ∧
      decode [0b11001100, 0x34, 0x12] = .ok (.call_Z_nn 0x1234, []) ∧ decode [0b11000000] = .ok (.ret_NZ, []) ∧
      decode [0xD9] = .ok (.reti, []) ∧ decode [0b11111111] = .ok (.rst_38, []) := by decide

/-- 47_system R411 to R417, and what is no whole instruction. -/
theorem test_decode_system_and_truncated :
    decode [0x00, 0x76] = .ok (.nop, [0x76]) ∧ decode [0x10, 0x7F] = .ok (.stop 0x7F, []) ∧ decode [0xF3] = .ok (.di, []) ∧
      decode [0xFB] = .ok (.ei, []) ∧ decode [0xDB] = .ok (.illegal_DB, []) ∧ decode [] = .error .noOpcode ∧
      decode [0xCB] = .error .missingOperand ∧ decode [0xCD, 0x00] = .error .missingOperand := by decide

/-- The words of opcode_table.json: a CB row has 16 bits with the prefix in the high byte; operand bytes are zeros. -/
theorem test_decode_table_words :
    decodeTableWord 8 0x41 = some .ld_B_C ∧ decodeTableWord 8 0xC3 = some (.jp_nn 0) ∧
      decodeTableWord 16 0xCB7C = some .bit_7_H ∧ decodeTableWord 16 0x7CCB = some .bit_7_H := by decide

/-! ## One step -/

theorem test_L1_LD_B_C :
    runs { start with cpu.c := 0x5A, wram := [(0x0000, 0x41)] }
      (fun t => t.cpu.b == 0x5A && t.cpu.pc == 0xC001 && t.cpu.cost == 4) = true := by decide

theorem test_L2_LD_A_mHL :
    runs { start with cpu.h := 0xC1, cpu.l := 0x00, wram := [(0x0000, 0x7E), (0x0100, 0x77)] }
      (fun t => t.cpu.a == 0x77 && t.cpu.pc == 0xC001 && t.cpu.cost == 8) = true := by decide

theorem test_L3_LD_mHL_n :
    runs { start with cpu.h := 0xC1, cpu.l := 0x00, wram := [(0x0000, 0x36), (0x0001, 0x99)] }
      (fun t => t.cpu.pc == 0xC002 && t.busRead 0xC100 == 0x99 && t.cpu.cost == 12) = true := by decide

theorem test_L4_LD_mDE_A :
    runs { start with cpu.d := 0xC2, cpu.e := 0x00, cpu.a := 0x12, wram := [(0x0000, 0x12)] }
      (fun t => t.cpu.pc == 0xC001 && t.busRead 0xC200 == 0x12 && t.cpu.cost == 8) = true := by decide

theorem test_L5_LD_mnn_A :
    runs { start with cpu.a := 0x34, wram := [(0x0000, 0xEA), (0x0001, 0x80), (0x0002, 0xFF)] }
      (fun t => t.cpu.pc == 0xC003 && t.busRead 0xFF80 == 0x34 && t.cpu.cost == 16) = true := by decide

theorem test_L6_LD_A_mnn :
    runs { start with wram := [(0x0000, 0xFA), (0x0001, 0x23), (0x0002, 0xE1), (0x0123, 0xAB)] }
      (fun t => t.cpu.a == 0xAB && t.cpu.pc == 0xC003 && t.cpu.cost == 16) = true := by decide

theorem test_L8_LDH_mn_A :
    runs { start with cpu.a := 0x66, wram := [(0x0000, 0xE0), (0x0001, 0x85)] }
      (fun t => t.cpu.pc == 0xC002 && t.busRead 0xFF85 == 0x66 && t.cpu.cost == 12) = true := by decide

theorem test_L9_LDH_A_mC :
    runs { start with cpu.c := 0x0F, irq.ifl := 0x01, wram := [(0x0000, 0xF2)] }
      (fun t => t.cpu.a == 0xE1 && t.cpu.pc == 0xC001 && t.cpu.cost == 8) = true := by decide

theorem test_L10_LD_mHLI_A :
    runs { start with cpu.h := 0xFF, cpu.l := 0xFF, cpu.a := 0x1F, wram := [(0x0000, 0x22)] }
      (fun t => t.cpu.h == 0x00 && t.cpu.l == 0x00 && t.cpu.pc == 0xC001 && t.irq.ie == 0x1F && t.cpu.cost == 8) = true := by decide

theorem test_L11_LD_A_mHLD :
    runs { start with cpu.h := 0xC0, cpu.l := 0x00, wram := [(0x0000, 0x3A)] }
      (fun t => t.cpu.a == 0x3A && t.cpu.h == 0xBF && t.cpu.l == 0xFF && t.cpu.pc == 0xC001 && t.cpu.cost == 8) = true := by decide

theorem test_L12_LD_mBC_A :
    runs { start with cpu.b := 0x20, cpu.c := 0x00, wram := [(0x0000, 0x02)] }
      (fun t => t.cpu.pc == 0xC001 && t.busRead 0x2000 == 0x00 && t.cpu.cost == 8) = true := by decide

theorem test_L13_LD_mHL_H :
    runs { start with cpu.h := 0xC1, cpu.l := 0x55, wram := [(0x0000, 0x74)] }
      (fun t => t.cpu.pc == 0xC001 && t.busRead 0xC155 == 0xC1 && t.cpu.cost == 8) = true := by decide

theorem test_S1_LD_BC_nn :
    runs { start with wram := [(0x0000, 0x01), (0x0001, 0x34), (0x0002, 0x12)] }
      (fun t => t.cpu.b == 0x12 && t.cpu.c == 0x34 && t.cpu.pc == 0xC003 && t.cpu.cost == 12) = true := by decide

theorem test_S2_LD_mnn_SP :
    runs { start with cpu.sp := 0xFFF8, wram := [(0x0000, 0x08), (0x0002, 0xC1)] }
      (fun t => t.cpu.pc == 0xC003 && t.busRead 0xC100 == 0xF8 && t.busRead 0xC101 == 0xFF && t.cpu.cost == 20) = true := by decide

theorem test_S3_PUSH_BC :
    runs { start with cpu.sp := 0xD000, cpu.b := 0x12, cpu.c := 0x34, wram := [(0x0000, 0xC5)] }
      (fun t => t.cpu.sp == 0xCFFE && t.cpu.pc == 0xC001 && t.busRead 0xCFFE == 0x34 && t.busRead 0xCFFF == 0x12 && t.cpu.cost == 16) = true := by decide

theorem test_S4_POP_AF :
    runs { start with cpu.sp := 0xCFFE, wram := [(0x0000, 0xF1), (0x0FFE, 0xFF), (0x0FFF, 0x12)] }
      (fun t => t.cpu.a == 0x12 && t.cpu.f == 0xF0 && t.cpu.sp == 0xD000 && t.cpu.pc == 0xC001 && t.cpu.cost == 12) = true := by decide

theorem test_S5_POP_DE :
    runs { start with cpu.sp := 0xCFFE, wram := [(0x0000, 0xD1), (0x0FFE, 0x3C), (0x0FFF, 0x5A)] }
      (fun t => t.cpu.d == 0x5A && t.cpu.e == 0x3C && t.cpu.sp == 0xD000 && t.cpu.pc == 0xC001 && t.cpu.cost == 12) = true := by decide

theorem test_S6_LD_HL_SP_e :
    runs { start with cpu.sp := 0xFFF8, wram := [(0x0000, 0xF8), (0x0001, 0x02)] }
      (fun t => t.cpu.f == 0x00 && t.cpu.h == 0xFF && t.cpu.l == 0xFA && t.cpu.pc == 0xC002 && t.cpu.cost == 12) = true := by decide

theorem test_S7_LD_HL_SP_e :
    runs { start with cpu.sp := 0x0001, wram := [(0x0000, 0xF8), (0x0001, 0xFF)] }
      (fun t => t.cpu.f == 0x30 && t.cpu.h == 0x00 && t.cpu.l == 0x00 && t.cpu.pc == 0xC002 && t.cpu.cost == 12) = true := by decide

theorem test_S9_LD_SP_HL :
    runs { start with cpu.h := 0xDF, cpu.l := 0xFF, wram := [(0x0000, 0xF9)] }
      (fun t => t.cpu.sp == 0xDFFF && t.cpu.pc == 0xC001 && t.cpu.cost == 8) = true := by decide

theorem test_S10_PUSH_AF :
    runs { start with cpu.sp := 0xD000, cpu.a := 0x01, cpu.f := 0xB0, wram := [(0x0000, 0xF5)] }
      (fun t => t.cpu.sp == 0xCFFE && t.cpu.pc == 0xC001 && t.busRead 0xCFFE == 0xB0 && t.busRead 0xCFFF == 0x01 && t.cpu.cost == 16) = true := by decide

theorem test_A1_ADD_A_B :
    runs { start with cpu.a := 0x3A, cpu.b := 0xC6, wram := [(0x0000, 0x80)] }
      (fun t => t.cpu.a == 0x00 && t.cpu.f == 0xB0 && t.cpu.pc == 0xC001 && t.cpu.cost == 4) = true := by decide

theorem test_A3_ADC_A_n :
    runs { start with cpu.a := 0xFF, cpu.f := 0xB0, wram := [(0x0000, 0xCE)] }
      (fun t => t.cpu.a == 0x00 && t.cpu.f == 0xB0 && t.cpu.pc == 0xC002 && t.cpu.cost == 8) = true := by decide

theorem test_A5_SUB_B :
    runs { start with cpu.a := 0x3E, cpu.b := 0x3E, wram := [(0x0000, 0x90)] }
      (fun t => t.cpu.a == 0x00 && t.cpu.f == 0xC0 && t.cpu.pc == 0xC001 && t.cpu.cost == 4) = true := by decide

theorem test_A8_SBC_A_B :
    runs { start with cpu.a := 0x3B, cpu.b := 0x2A, cpu.f := 0xB0, wram := [(0x0000, 0x98)] }
      (fun t => t.cpu.a == 0x10 && t.cpu.f == 0x40 && t.cpu.pc == 0xC001 && t.cpu.cost == 4) = true := by decide

theorem test_A9_SBC_A_n :
    runs { start with cpu.a := 0x00, cpu.f := 0xB0, wram := [(0x0000, 0xDE), (0x0001, 0xFF)] }
      (fun t => t.cpu.f == 0xF0 && t.cpu.pc == 0xC002 && t.cpu.cost == 8) = true := by decide

theorem test_A10_AND_B :
    runs { start with cpu.a := 0x5A, cpu.b := 0x3F, wram := [(0x0000, 0xA0)] }
      (fun t => t.cpu.a == 0x1A && t.cpu.f == 0x20 && t.cpu.pc == 0xC001 && t.cpu.cost == 4) = true := by decide

theorem test_A11_XOR_A :
    runs { start with wram := [(0x0000, 0xAF)] }
      (fun t => t.cpu.a == 0x00 && t.cpu.f == 0x80 && t.cpu.pc == 0xC001 && t.cpu.cost == 4) = true := by decide

theorem test_A12_OR_mHL :
    runs { start with cpu.a := 0x5A, cpu.f := 0x00, cpu.h := 0xC1, cpu.l := 0x00, wram := [(0x0000, 0xB6), (0x0100, 0x0F)] }
      (fun t => t.cpu.a == 0x5F && t.cpu.pc == 0xC001 && t.cpu.cost == 8) = true := by decide

theorem test_A13_CP_B :
    runs { start with cpu.a := 0x3C, cpu.b := 0x2F, wram := [(0x0000, 0xB8)] }
      (fun t => t.cpu.f == 0x60 && t.cpu.pc == 0xC001 && t.cpu.cost == 4) = true := by decide

theorem test_A14_CP_n :
    runs { start with cpu.a := 0x3C, wram := [(0x0000, 0xFE), (0x0001, 0x3C)] }
      (fun t => t.cpu.f == 0xC0 && t.cpu.pc == 0xC002 && t.cpu.cost == 8) = true := by decide

theorem test_A15_INC_A :
    runs { start with cpu.a := 0xFF, cpu.f := 0xB0, wram := [(0x0000, 0x3C)] }
      (fun t => t.cpu.a == 0x00 && t.cpu.f == 0xB0 && t.cpu.pc == 0xC001 && t.cpu.cost == 4) = true := by decide

theorem test_A16_DEC_B :
    runs { start with cpu.b := 0x01, cpu.f := 0x00, wram := [(0x0000, 0x05)] }
      (fun t => t.cpu.f == 0xC0 && t.cpu.b == 0x00 && t.cpu.pc == 0xC001 && t.cpu.cost == 4) = true := by decide

theorem test_A17_DEC_B :
    runs { start with cpu.b := 0x10, cpu.f := 0xB0, wram := [(0x0000, 0x05)] }
      (fun t => t.cpu.f == 0x70 && t.cpu.b == 0x0F && t.cpu.pc == 0xC001 && t.cpu.cost == 4) = true := by decide

theorem test_A18_INC_mHL :
    runs { start with cpu.f := 0x00, cpu.h := 0xC1, cpu.l := 0x00, wram := [(0x0000, 0x34), (0x0100, 0x0F)] }
      (fun t => t.cpu.f == 0x20 && t.cpu.pc == 0xC001 && t.busRead 0xC100 == 0x10 && t.cpu.cost == 12) = true := by decide

theorem test_A19_DEC_mHL :
    runs { start with cpu.f := 0x00, cpu.h := 0xC1, cpu.l := 0x00, wram := [(0x0000, 0x35)] }
      (fun t => t.cpu.f == 0x60 && t.cpu.pc == 0xC001 && t.busRead 0xC100 == 0xFF && t.cpu.cost == 12) = true := by decide

theorem test_A24_DAA :
    runs { start with cpu.a := 0x9A, cpu.f := 0x00, wram := [(0x0000, 0x27)] }
      (fun t => t.cpu.a == 0x00 && t.cpu.f == 0x90 && t.cpu.pc == 0xC001 && t.cpu.cost == 4) = true := by decide

theorem test_A25_CPL :
    runs { start with cpu.a := 0x35, cpu.f := 0x00, wram := [(0x0000, 0x2F)] }
      (fun t => t.cpu.a == 0xCA && t.cpu.f == 0x60 && t.cpu.pc == 0xC001 && t.cpu.cost == 4) = true := by decide

theorem test_A26_SCF :
    runs { start with cpu.f := 0xE0, wram := [(0x0000, 0x37)] }
      (fun t => t.cpu.f == 0x90 && t.cpu.pc == 0xC001 && t.cpu.cost == 4) = true := by decide

theorem test_A27_CCF :
    runs { start with cpu.f := 0x90, wram := [(0x0000, 0x3F)] }
      (fun t => t.cpu.f == 0x80 && t.cpu.pc == 0xC001 && t.cpu.cost == 4) = true := by decide

theorem test_A28_XOR_n :
    runs { start with cpu.a := 0xFF, wram := [(0x0000, 0xEE), (0x0001, 0x0F)] }
      (fun t => t.cpu.a == 0xF0 && t.cpu.f == 0x00 && t.cpu.pc == 0xC002 && t.cpu.cost == 8) = true := by decide

theorem test_W1_ADD_HL_BC :
    runs { start with cpu.h := 0x8A, cpu.l := 0x23, cpu.b := 0x06, cpu.c := 0x05, cpu.f := 0x00, wram := [(0x0000, 0x09)] }
      (fun t => t.cpu.f == 0x20 && t.cpu.h == 0x90 && t.cpu.l == 0x28 && t.cpu.pc == 0xC001 && t.cpu.cost == 8) = true := by decide

theorem test_W2_ADD_HL_HL :
    runs { start with cpu.h := 0x8A, cpu.l := 0x23, wram := [(0x0000, 0x29)] }
      (fun t => t.cpu.f == 0xB0 && t.cpu.h == 0x14 && t.cpu.l == 0x46 && t.cpu.pc == 0xC001 && t.cpu.cost == 8) = true := by decide

theorem test_W3_ADD_HL_SP :
    runs { start with cpu.h := 0xFF, cpu.l := 0xFF, cpu.sp := 0x0001, cpu.f := 0x00, wram := [(0x0000, 0x39)] }
      (fun t => t.cpu.f == 0x30 && t.cpu.h == 0x00 && t.cpu.l == 0x00 && t.cpu.pc == 0xC001 && t.cpu.cost == 8) = true := by decide

theorem test_W4_INC_SP :
    runs { start with cpu.sp := 0xFFFF, wram := [(0x0000, 0x33)] }
      (fun t => t.cpu.sp == 0x0000 && t.cpu.pc == 0xC001 && t.cpu.cost == 8) = true := by decide

theorem test_W5_DEC_BC :
    runs { start with cpu.b := 0x00, cpu.c := 0x00, wram := [(0x0000, 0x0B)] }
      (fun t => t.cpu.b == 0xFF && t.cpu.c == 0xFF && t.cpu.pc == 0xC001 && t.cpu.cost == 8) = true := by decide

theorem test_W6_ADD_SP_e :
    runs { start with cpu.sp := 0xFFF8, wram := [(0x0000, 0xE8), (0x0001, 0x02)] }
      (fun t => t.cpu.f == 0x00 && t.cpu.sp == 0xFFFA && t.cpu.pc == 0xC002 && t.cpu.cost == 16) = true := by decide

theorem test_W8_ADD_SP_e :
    runs { start with cpu.sp := 0x0001, wram := [(0x0000, 0xE8), (0x0001, 0xFF)] }
      (fun t => t.cpu.f == 0x30 && t.cpu.sp == 0x0000 && t.cpu.pc == 0xC002 && t.cpu.cost == 16) = true := by decide

theorem test_R1_RLCA :
    runs { start with cpu.a := 0x85, wram := [(0x0000, 0x07)] }
      (fun t => t.cpu.a == 0x0B && t.cpu.f == 0x10 && t.cpu.pc == 0xC001 && t.cpu.cost == 4) = true := by decide

theorem test_R2_RLCA :
    runs { start with cpu.a := 0x00, cpu.f := 0x80, wram := [(0x0000, 0x07)] }
      (fun t => t.cpu.f == 0x00 && t.cpu.pc == 0xC001 && t.cpu.cost == 4) = true := by decide

theorem test_R3_RRCA :
    runs { start with cpu.a := 0x01, wram := [(0x0000, 0x0F)] }
      (fun t => t.cpu.a == 0x80 && t.cpu.f == 0x10 && t.cpu.pc == 0xC001 && t.cpu.cost == 4) = true := by decide

theorem test_R4_RLA :
    runs { start with cpu.a := 0x95, cpu.f := 0x10, wram := [(0x0000, 0x17)] }
      (fun t => t.cpu.a == 0x2B && t.cpu.pc == 0xC001 && t.cpu.cost == 4) = true := by decide

theorem test_R5_RRA :
    runs { start with cpu.a := 0x81, cpu.f := 0xA0, wram := [(0x0000, 0x1F)] }
      (fun t => t.cpu.a == 0x40 && t.cpu.f == 0x10 && t.cpu.pc == 0xC001 && t.cpu.cost == 4) = true := by decide

theorem test_R6_RLC_B :
    runs { start with cpu.b := 0x00, wram := [(0x0000, 0xCB)] }
      (fun t => t.cpu.f == 0x80 && t.cpu.pc == 0xC002 && t.cpu.cost == 8) = true := by decide

theorem test_R7_RL_mHL :
    runs { start with cpu.f := 0xA0, cpu.h := 0xC1, cpu.l := 0x00, wram := [(0x0000, 0xCB), (0x0001, 0x16), (0x0100, 0x80)] }
      (fun t => t.cpu.f == 0x90 && t.cpu.pc == 0xC002 && t.busRead 0xC100 == 0x00 && t.cpu.cost == 16) = true := by decide

theorem test_R8_RR_A :
    runs { start with cpu.a := 0x01, cpu.f := 0xA0, wram := [(0x0000, 0xCB), (0x0001, 0x1F)] }
      (fun t => t.cpu.a == 0x00 && t.cpu.f == 0x90 && t.cpu.pc == 0xC002 && t.cpu.cost == 8) = true := by decide

theorem test_R9_SLA_D :
    runs { start with cpu.d := 0x80, wram := [(0x0000, 0xCB), (0x0001, 0x22)] }
      (fun t => t.cpu.f == 0x90 && t.cpu.d == 0x00 && t.cpu.pc == 0xC002 && t.cpu.cost == 8) = true := by decide

theorem test_R10_SRA_E :
    runs { start with cpu.e := 0x8A, cpu.f := 0x00, wram := [(0x0000, 0xCB), (0x0001, 0x2B)] }
      (fun t => t.cpu.e == 0xC5 && t.cpu.pc == 0xC002 && t.cpu.cost == 8) = true := by decide

theorem test_R11_SWAP_A :
    runs { start with cpu.a := 0xF0, wram := [(0x0000, 0xCB), (0x0001, 0x37)] }
      (fun t => t.cpu.a == 0x0F && t.cpu.f == 0x00 && t.cpu.pc == 0xC002 && t.cpu.cost == 8) = true := by decide

theorem test_R13_SRL_A :
    runs { start with cpu.a := 0x01, wram := [(0x0000, 0xCB), (0x0001, 0x3F)] }
      (fun t => t.cpu.a == 0x00 && t.cpu.f == 0x90 && t.cpu.pc == 0xC002 && t.cpu.cost == 8) = true := by decide

theorem test_R14_RRC_C :
    runs { start with cpu.c := 0x01, wram := [(0x0000, 0xCB), (0x0001, 0x09)] }
      (fun t => t.cpu.f == 0x10 && t.cpu.c == 0x80 && t.cpu.pc == 0xC002 && t.cpu.cost == 8) = true := by decide

theorem test_R15_SRL_mHL :
    runs { start with cpu.h := 0xC1, cpu.l := 0x00, wram := [(0x0000, 0xCB), (0x0001, 0x3E), (0x0100, 0xFF)] }
      (fun t => t.cpu.f == 0x10 && t.cpu.pc == 0xC002 && t.busRead 0xC100 == 0x7F && t.cpu.cost == 16) = true := by decide

theorem test_B1_BIT_7_H :
    runs { start with cpu.h := 0x80, cpu.f := 0x10, wram := [(0x0000, 0xCB), (0x0001, 0x7C)] }
      (fun t => t.cpu.f == 0x30 && t.cpu.pc == 0xC002 && t.cpu.cost == 8) = true := by decide

theorem test_B2_BIT_4_L :
    runs { start with cpu.l := 0xEF, cpu.f := 0x00, wram := [(0x0000, 0xCB), (0x0001, 0x65)] }
      (fun t => t.cpu.f == 0xA0 && t.cpu.pc == 0xC002 && t.cpu.cost == 8) = true := by decide

theorem test_B3_BIT_0_mHL :
    runs { start with cpu.f := 0xC0, cpu.h := 0xC1, cpu.l := 0x00, wram := [(0x0000, 0xCB), (0x0001, 0x46), (0x0100, 0x01)] }
      (fun t => t.cpu.f == 0x20 && t.cpu.pc == 0xC002 && t.cpu.cost == 12) = true := by decide

theorem test_B4_RES_7_A :
    runs { start with cpu.a := 0xFF, wram := [(0x0000, 0xCB), (0x0001, 0xBF)] }
      (fun t => t.cpu.a == 0x7F && t.cpu.pc == 0xC002 && t.cpu.cost == 8) = true := by decide

theorem test_B5_SET_3_mHL :
    runs { start with cpu.h := 0xC1, cpu.l := 0x00, wram := [(0x0000, 0xCB), (0x0001, 0xDE)] }
      (fun t => t.cpu.pc == 0xC002 && t.busRead 0xC100 == 0x08 && t.cpu.cost == 16) = true := by decide

theorem test_B6_RES_0_mHL :
    runs { start with cpu.h := 0xC1, cpu.l := 0x00, wram := [(0x0000, 0xCB), (0x0001, 0x86), (0x0100, 0x01)] }
      (fun t => t.cpu.pc == 0xC002 && t.busRead 0xC100 == 0x00 && t.cpu.cost == 16) = true := by decide

theorem test_C1_JP_nn :
    runs { start with wram := [(0x0000, 0xC3), (0x0001, 0x50), (0x0002, 0x01)] }
      (fun t => t.cpu.pc == 0x0150 && t.cpu.cost == 16) = true := by decide

theorem test_C2_JP_HL :
    runs { start with cpu.h := 0x40, cpu.l := 0x00, wram := [(0x0000, 0xE9)] }
      (fun t => t.cpu.pc == 0x4000 && t.cpu.cost == 4) = true := by decide

theorem test_C3_JR_e :
    runs { start with wram := [(0x0000, 0x18), (0x0001, 0xFE)] }
      (fun t => t.cpu.pc == 0xC000 && t.cpu.cost == 12) = true := by decide

theorem test_C4_JR_NZ_e :
    runs { start with cpu.f := 0x30, wram := [(0x0000, 0x20), (0x0001, 0x05)] }
      (fun t => t.cpu.pc == 0xC007 && t.cpu.cost == 12) = true := by decide

theorem test_C6_JR_e :
    runs { start with wram := [(0x0000, 0x18), (0x0001, 0x80)] }
      (fun t => t.cpu.pc == 0xBF82 && t.cpu.cost == 12) = true := by decide

theorem test_C7_JP_C_nn :
    runs { start with cpu.f := 0xA0, wram := [(0x0000, 0xDA), (0x0002, 0x40)] }
      (fun t => t.cpu.pc == 0xC003 && t.cpu.cost == 12) = true := by decide

theorem test_C8_CALL_nn :
    runs { start with cpu.sp := 0xD000, wram := [(0x0000, 0xCD), (0x0001, 0x34), (0x0002, 0x12)] }
      (fun t => t.cpu.sp == 0xCFFE && t.cpu.pc == 0x1234 && t.busRead 0xCFFE == 0x03 && t.busRead 0xCFFF == 0xC0 && t.cpu.cost == 24) = true := by decide

theorem test_C9_CALL_NC_nn :
    runs { start with cpu.f := 0xB0, wram := [(0x0000, 0xD4), (0x0001, 0x34), (0x0002, 0x12)] }
      (fun t => t.cpu.pc == 0xC003 && t.cpu.cost == 12) = true := by decide

theorem test_C10_RET :
    runs { start with cpu.sp := 0xCFFE, wram := [(0x0000, 0xC9), (0x0FFE, 0x50), (0x0FFF, 0x01)] }
      (fun t => t.cpu.sp == 0xD000 && t.cpu.pc == 0x0150 && t.cpu.cost == 16) = true := by decide

theorem test_C11_RET_Z :
    runs { start with cpu.f := 0xB0, cpu.sp := 0xCFFE, wram := [(0x0000, 0xC8), (0x0FFE, 0x50), (0x0FFF, 0x01)] }
      (fun t => t.cpu.sp == 0xD000 && t.cpu.pc == 0x0150 && t.cpu.cost == 20) = true := by decide

theorem test_C13_RETI :
    runs { start with cpu.ime := false, cpu.sp := 0xCFFE, wram := [(0x0000, 0xD9), (0x0FFE, 0x50), (0x0FFF, 0x01)] }
      (fun t => t.cpu.sp == 0xD000 && t.cpu.pc == 0x0150 && t.cpu.ime == true && t.cpu.cost == 16) = true := by decide

theorem test_C14_RST_0x38 :
    runs { start with cpu.sp := 0xD000, wram := [(0x0000, 0xFF)] }
      (fun t => t.cpu.sp == 0xCFFE && t.cpu.pc == 0x0038 && t.busRead 0xCFFE == 0x01 && t.busRead 0xCFFF == 0xC0 && t.cpu.cost == 16) = true := by decide

theorem test_Y1_NOP :
    runs { start with wram := [] }
      (fun t => t.cpu.pc == 0xC001 && t.cpu.cost == 4) = true := by decide

theorem test_Y2_HALT :
    runs { start with irq.ie := 0x01, irq.ifl := 0x00, wram := [(0x0000, 0x76)] }
      (fun t => t.cpu.pc == 0xC001 && decide (t.cpu.runMode = .halted) && t.cpu.cost == 4) = true := by decide

theorem test_Y3_HALT :
    runs { start with irq.ie := 0x04, irq.ifl := 0x04, cpu.ime := false, wram := [(0x0000, 0x76)] }
      (fun t => t.cpu.pc == 0xC001 && t.cpu.haltBug == true && t.cpu.cost == 4) = true := by decide

theorem test_Y5_HALT :
    runs { start with irq.ie := 0x04, irq.ifl := 0x04, cpu.ime := true, wram := [(0x0000, 0x76)] }
      (fun t => t.cpu.sp == 0xFFFC && t.cpu.pc == 0x0050 && t.cpu.ime == false && t.irq.ifl == 0x00 && t.cpu.cost == 20) = true := by decide

theorem test_Y6_STOP_00 :
    runs { start with timer.div := 0x1234, wram := [(0x0000, 0x10)] }
      (fun t => t.cpu.pc == 0xC002 && decide (t.cpu.runMode = .stopped) && t.timer.div == 0x0004 && t.cpu.cost == 4) = true := by decide

theorem test_Y7_DI :
    runs { start with cpu.ime := true, wram := [(0x0000, 0xF3)] }
      (fun t => t.cpu.pc == 0xC001 && t.cpu.ime == false && t.cpu.cost == 4) = true := by decide

theorem test_Y8_EI :
    runs { start with cpu.ime := false, wram := [(0x0000, 0xFB)] }
      (fun t => t.cpu.pc == 0xC001 && t.cpu.imePending == true && t.cpu.cost == 4) = true := by decide

theorem test_Y11_illegal_0xDD :
    runs { start with wram := [(0x0000, 0xDD)] }
      (fun t => t.cpu.pc == 0xC001 && t.cpu.locked == true && t.cpu.cost == 4) = true := by decide

theorem test_I1_dispatch :
    runs { start with irq.ie := 0x1F, irq.ifl := 0x1F, cpu.sp := 0xD000, cpu.ime := true, wram := [] }
      (fun t => t.cpu.sp == 0xCFFE && t.cpu.pc == 0x0040 && t.cpu.ime == false && t.irq.ifl == 0x1E && t.busRead 0xCFFE == 0x00 && t.busRead 0xCFFF == 0xC0 && t.cpu.cost == 20) = true := by decide

theorem test_I2_dispatch_Timer :
    runs { start with irq.ie := 0x04, irq.ifl := 0x05, cpu.sp := 0xD000, cpu.ime := true, wram := [] }
      (fun t => t.cpu.sp == 0xCFFE && t.cpu.pc == 0x0050 && t.cpu.ime == false && t.irq.ifl == 0x01 && t.cpu.cost == 20) = true := by decide

theorem test_I3_IME_1_IE_0xE0_IF_0x1F :
    runs { start with cpu.ime := true, irq.ie := 0xE0, irq.ifl := 0x1F, wram := [] }
      (fun t => t.cpu.pc == 0xC001 && t.cpu.cost == 4) = true := by decide

theorem test_I8_IME_1_IE_0x1F_IF_0x18 :
    runs { start with cpu.ime := true, irq.ie := 0x1F, irq.ifl := 0x18, cpu.sp := 0xD000, wram := [] }
      (fun t => t.cpu.sp == 0xCFFE && t.cpu.pc == 0x0058 && t.cpu.ime == false && t.irq.ifl == 0x10 && t.cpu.cost == 20) = true := by decide
/-! A few steps that the vectors of one instruction do not show. -/

/-- V-A23: 0x00 - 0x01 leaves A = 0xFF and F = 0x70; DAA then gives 0x99 with F = 0x50. -/
theorem test_A23_DAA_after_borrow :
    runs { start with cpu.a := 0xFF, cpu.f := 0x70, wram := [(0x0000, 0x27)] }
      (fun t => t.cpu.a == 0x99 && t.cpu.f == 0x50) = true := by decide

/-- V-Y4, second step: with the HALT bug armed INC A is fetched and PC stays. -/
theorem test_Y4_halt_bug_fetch :
    runs { start with cpu.a := 0x00, cpu.haltBug := true, cpu.pc := 0xC001, wram := [(0x0000, 0x76), (0x0001, 0x3C)] }
      (fun t => t.cpu.a == 0x01 && t.cpu.pc == 0xC001 && t.cpu.haltBug == false) = true := by decide

/-- V-I5, third step: the dispatch pushes the address of the HALT. -/
theorem test_I5_dispatch_after_halt_bug :
    runs { start with cpu.sp := 0xD000, cpu.pc := 0xC002, cpu.ime := true, cpu.haltBug := true, irq.ie := 0x01, irq.ifl := 0x01 }
      (fun t => t.cpu.pc == 0x0040 && t.busRead 0xCFFE == 0x01 && t.busRead 0xCFFF == 0xC0 && t.irq.ifl == 0) = true := by
  decide

/-- V-I7, second step: the EI delay ends at the locking step. -/
theorem test_I7_delay_ends_at_lock :
    runs { start with cpu.imePending := true, irq.ie := 0x01, irq.ifl := 0x01, wram := [(0x0000, 0xD3)] }
      (fun t => t.cpu.ime && t.cpu.locked && t.cpu.pc == 0xC001) = true := by decide

/-- G1: the CGB speed switch. -/
theorem test_G1_speed_switch :
    runs { startCgb with cpu.speedPrepare := true, wram := [(0x0000, 0x10)] }
      (fun t => t.cpu.doubleSpeed && t.timer.div == 0x0002 && t.busRead 0xFF4D == 0xFE) = true := by decide

/-- H2: a stopped CPU wakes when Start is pressed with the actions selected. -/
theorem test_H2_stop_wakes :
    runs { start with
        cpu.runMode := .stopped
        joypad.joySel := 0b01
        host.inputs := [some { Buttons.released with start := true }] }
      (fun t => decide (t.cpu.runMode = .running) && t.irq.ifl == 0x11) = true := by decide

/-! ## Devices (95_test_vectors part 4) -/

/-- T1, cycles 32 and 36: the overflow, the reload with its request. -/
theorem test_T1_overflow_and_reload :
    (State.timerTick { start with timer := { div := 0x001F, tima := 0xFF, tma := 0x10, tac := 5, reloadDelay := 0 } }).timer =
        { div := 0x0020, tima := 0x00, tma := 0x10, tac := 5, reloadDelay := 4 } ∧
      (State.timerTick { start with
        irq.ifl := 0
        timer := { div := 0x0023, tima := 0x00, tma := 0x10, tac := 5, reloadDelay := 1 } }).irq.ifl = 4 := by decide

/-- T2, T3: the DIV reset and a TAC write count a falling edge. -/
theorem test_T2_T3_falling_edges :
    (State.busWrite { start with timer.div := 0x0200, timer.tac := 4 } 0xFF04 0x5A).timer.tima = 0x01 ∧
      (State.busWrite { start with timer.div := 0x0200 } 0xFF04 0x5A).timer.tima = 0x00 ∧
      (State.busWrite { start with timer.div := 0x0008, timer.tac := 5, timer.tima := 0x20 } 0xFF07 0x04).timer.tima = 0x21 ∧
      (State.busWrite { start with timer.tac := 5, timer.tima := 0x20 } 0xFF07 0x04).timer.tima = 0x20 := by decide

/-- P0, P1, P4: STAT at reset and the modes by dot. -/
theorem test_P1_modes :
    State.reset.busRead 0xFF41 = 0x86 ∧ State.ppuMode { State.reset with ppu.dot := 79 } = .oamScan ∧
      State.ppuMode { State.reset with ppu.dot := 251 } = .transfer ∧
      State.ppuMode { State.reset with ppu.dot := 252 } = .hblank ∧
      State.ppuMode { State.reset with ppu.dot := 368, cfg.mode3Len := 289 } = .transfer := by decide

/-- P6: the LCD switch. -/
theorem test_P6_lcd_off :
    (State.busWrite { State.reset with ppu.ly := 10, ppu.dot := 3 } 0xFF40 0x11).busRead 0xFF41 = 0x84 := by decide

/-- P7: of two opaque sprite pixels the smaller X wins, then the smaller OAM index. -/
theorem test_P7_sprite_priority :
    let s : State := { State.reset with
      ppu.lcdc := 0x93
      ppu.lineSprites := [0, 1]
      vram := Memory.ofBytes 16 (List.replicate 32 0xFF)
      oam := Memory.ofBytes 0 [16, 12, 1, 0x00, 16, 10, 2, 0x10] }
    let t : State := { s with oam := Memory.ofBytes 0 [16, 10, 1, 0x00, 16, 10, 2, 0x10] }
    ((s.winningObj 4).map ObjPixel.index, (s.winningObj 10).map ObjPixel.index, (s.winningObj 1).map ObjPixel.index,
      (t.winningObj 4).map ObjPixel.index) = (some 1, some 0, none, some 0) := by decide

/-- M1, M2, M7: MBC1 banks and RAM enable, MBC2 cells. -/
theorem test_M1_M2_M7_banking :
    let m : State := { start with
      cfg.cart := { variant := .mbc1, romBanks := 4, ramSize := 8192, battery := false }
      cfg.rom := [(0x4000, 0x01), (0x8000, 0x02), (0xC000, 0x03)] }
    let n : State := { start with cfg.cart := { variant := .mbc2, romBanks := 16, ramSize := 512, battery := false } }
    m.busRead 0x4000 = 0x01 ∧ (m.busWrite 0x2000 0x02).busRead 0x4000 = 0x02 ∧
      (m.busWrite 0x2000 0x1F).busRead 0x4000 = 0x03 ∧ (m.busWrite 0xA000 0x12).busRead 0xA000 = 0xFF ∧
      ((m.busWrite 0x0000 0x1A).busWrite 0xA000 0x12).busRead 0xA000 = 0x12 ∧
      ((n.busWrite 0x0000 0x0A).busWrite 0xA000 0x5C).busRead 0xA200 = 0xFC := by decide

/-- M8, M9: MBC3's absent clock, MBC5's nine-bit bank. -/
theorem test_M8_M9_banking :
    let m : State := { start with cfg.cart := { variant := .mbc3, romBanks := 128, ramSize := 32768, battery := true } }
    let n : State := { start with cfg.cart := { variant := .mbc5, romBanks := 512, ramSize := 0, battery := false } }
    ((m.busWrite 0x0000 0x0A).busWrite 0x4000 0x08).busRead 0xA000 = 0xFF ∧ (m.busWrite 0x2000 0x85).cart.romBank = 0x05 ∧
      ((n.busWrite 0x3000 0x01).busWrite 0x2000 0x05).cart.romBank = 0x105 ∧ (n.busWrite 0x2000 0x00).romBankHigh = 0 := by
  decide

/-- M10: the header. -/
theorem test_M10_header :
    Image.cart { bytes := [(0x0147, 0x03), (0x0148, 0x02), (0x0149, 0x03)], size := 0x20000 } =
        .ok { variant := .mbc1, romBanks := 8, ramSize := 32768, battery := true } ∧
      Image.cart { bytes := [(0x0147, 0x20)], size := 0x8000 } = .error .unsupportedController := by decide

/-- D2: OAM DMA from an echo page. -/
theorem test_D2_oam_dma :
    (State.busWrite { start with wram := [(0x0000, 0x3C), (0x009F, 0x11)] } 0xFF46 0xE0).oam = [(0, 0x3C), (159, 0x11)] := by
  decide +kernel

/-- S1, the start and the last cycle. -/
theorem test_S1_serial :
    (State.busWrite { start with serial.sb := 0x42 } 0xFF02 0x81).serial = { sb := 0x42, sc := 0x81, count := 4096 } ∧
      (State.serialTick { start with irq.ifl := 0, serial := { sb := 0x42, sc := 0x81, count := 1 } }).busRead 0xFF02 = 0x7F ∧
      (State.serialTick { start with irq.ifl := 0, serial := { sb := 0x42, sc := 0x81, count := 1 } }).irq.ifl = 8 := by decide

/-- J1: Right falls with the directions selected. -/
theorem test_J1_joypad :
    let s := State.busWrite { start with irq.ifl := 0 } 0xFF00 0x20
    s.busRead 0xFF00 = 0xEF ∧ (s.setButtons { Buttons.released with right := true }).busRead 0xFF00 = 0xEE ∧
      (s.setButtons { Buttons.released with right := true }).irq.ifl = 0x10 := by decide

/-- G3, G4, G5, G8: VBK, SVBK with the echo, the palette index, the absent registers of DMG mode. -/
theorem test_G3_G4_G5_G8_cgb_registers :
    ((startCgb.busWrite 0xFF4F 0x01).busWrite 0x8000 0x55).vram = [(0x2000, 0x55)] ∧
      ((startCgb.busWrite 0xFF70 0x03).busWrite 0xD000 0x66).busRead 0xF000 = 0x66 ∧
      (((startCgb.busWrite 0xFF68 0x80).busWrite 0xFF69 0xFF).busWrite 0xFF69 0x7F).busRead 0xFF68 = 0xC2 ∧
      start.busRead 0xFF4D = 0xFF := by decide

/-- G6, G7: a block copied at once, and one at the H-blank entry. -/
theorem test_G6_G7_hdma :
    let s : State := { startCgb with wram := [(0x0001, 0x01), (0x000F, 0x0F)], hdma.src := 0xC000 }
    let t : State := { s with hdma.active := true, hdma.len := 0x01, ppu.hblankEntered := true }
    (s.busWrite 0xFF55 0x00).vram = [(1, 0x01), (15, 0x0F)] ∧ (s.busWrite 0xFF55 0x00).busRead 0xFF55 = 0xFF ∧
      t.hdmaTick.vram = [(1, 0x01), (15, 0x0F)] ∧ t.hdmaTick.busRead 0xFF55 = 0x00 := by decide

/-! ## Witnesses of hypotheses -/

theorem witness_decodeOfEncode : (Instr.call_nn 0x1234).wellFormed = true := by decide

theorem witness_encodeOfDecode : decode [0xCD, 0x34, 0x12, 0x00] = .ok (.call_nn 0x1234, [0x00]) := by decide

theorem witness_decodeTotalAndLengthByOpcode :
    encode (.stop 0x00) = 0x10 :: [0x00] ∧ encode (.stop 0xFF) = 0x10 :: [0xFF] := by decide

theorem witness_stepRunsDecodedInstruction :
    let s : State := { start with wram := [(0x0000, 0xC3), (0x0001, 0x50), (0x0002, 0x01)] }
    s.takeHostInput.cpu.locked = false ∧ s.takeHostInput.cpu.runMode = .running ∧ s.takeHostInput.interruptDue = none ∧
      s.takeHostInput.cpu.haltBug = false ∧
      decode [s.takeHostInput.busRead s.takeHostInput.cpu.pc, s.takeHostInput.busRead (s.takeHostInput.cpu.pc + 1),
        s.takeHostInput.busRead (s.takeHostInput.cpu.pc + 2)] = .ok (.jp_nn 0x0150, []) ∧
      ends (exec (.jp_nn 0x0150)
        { s.takeHostInput with cpu.pc := s.takeHostInput.cpu.pc + BitVec.ofNat 16 (Instr.jp_nn 0x0150).length })
        (fun _ => true) = true := by decide

theorem witness_haltBugFetch :
    let s : State := { start with cpu.haltBug := true, wram := [(0x0000, 0x3E), (0x0001, 0x14)] }
    s.cpu.locked = false ∧ s.cpu.runMode = .running ∧ s.interruptDue = none ∧ s.cpu.haltBug = true ∧
      decode [s.busRead s.cpu.pc, s.busRead s.cpu.pc, s.busRead (s.cpu.pc + 1)] = .ok (.ld_A_n 0x3E, [0x14]) ∧
      ends (exec (.ld_A_n 0x3E)
        { s with cpu.pc := s.cpu.pc + BitVec.ofNat 16 ((Instr.ld_A_n 0x3E).length - 1), cpu.haltBug := false })
        (fun _ => true) = true := by decide

theorem witness_loadPairAndStoreStackPointer : Pair.hl ≠ Pair.sp := by decide

theorem witness_pushAndPopPair : StackPair.hl ≠ StackPair.af ∧ StackPair.bc ≠ StackPair.hl := by decide

theorem witness_addWithAndWithoutCarry :
    (AluOp.adc = .adc ∧ 1 = start.cpu.flagC.toNat) ∧
      (AluOp.adc = .adc ∧ 0 = (State.cpu { start with cpu.f := 0x00 }).flagC.toNat) ∧ (AluOp.add = .add ∧ (0 : Nat) = 0) := by
  decide

theorem witness_subtractAndCompare :
    (AluOp.sbc = .sbc ∧ 1 = start.cpu.flagC.toNat) ∧ (AluOp.sub = .sub ∧ (0 : Nat) = 0) ∧
      (AluOp.cp = .cp ∧ (0 : Nat) = 0) := by decide

theorem witness_bitwiseLogic :
    (AluOp.and = .and ∨ AluOp.and = .xor ∨ AluOp.and = .or) ∧ (AluOp.xor = .and ∨ AluOp.xor = .xor ∨ AluOp.xor = .or) ∧
      (AluOp.or = .and ∨ AluOp.or = .xor ∨ AluOp.or = .or) := by decide

theorem witness_decimalAdjust :
    start.cpu.flagN = false ∧ (State.cpu { start with cpu.f := 0x40 }).flagN = true := by decide

theorem witness_decimalSumAndDifference :
    let s : State := { start with cpu.a := 0x99, cpu.b := 0x00 }
    99 < 100 ∧ 0 < 100 ∧ s.cpu.a = BitVec.ofNat 8 (99 / 10 * 16 + 99 % 10) ∧
      s.cpu.b = BitVec.ofNat 8 (0 / 10 * 16 + 0 % 10) := by decide

theorem witness_incrementDecrementPair : Pair.bc ≠ Pair.sp := by decide

theorem witness_accumulatorRotates :
    (Instr.rra = .rra ∧ ShiftOp.rr = .rr ∧ (0x1F : Byte) = 0x1F) ∧
      (Instr.rlca = .rlca ∧ ShiftOp.rlc = .rlc ∧ (0x07 : Byte) = 0x07) := by decide

theorem witness_jumpsAndConditionalJumps :
    start.condHolds .z ∧ ¬start.condHolds .nz ∧ start.condHolds .c ∧ ¬start.condHolds .nc := by
  simp only [State.condHolds]
  decide

theorem witness_callsRestartsAndConditionalReturn :
    let s : State := { start with cpu.f := 0x00 }
    s.condHolds .nz ∧ ¬s.condHolds .z ∧ s.condHolds .nc ∧ ¬s.condHolds .c := by
  simp only [State.condHolds]
  decide

theorem witness_haltInstruction :
    start.irq.ie.extractLsb' 0 5 &&& start.irq.ifl = 0#5 ∧
      (let s : State := { start with irq.ie := 0x01, cpu.ime := true };
        s.irq.ie.extractLsb' 0 5 &&& s.irq.ifl ≠ 0#5 ∧ s.cpu.ime = true) ∧
      (let s : State := { start with irq.ie := 0xFF };
        s.irq.ie.extractLsb' 0 5 &&& s.irq.ifl ≠ 0#5 ∧ s.cpu.ime = false) := by decide

theorem witness_stopInstruction :
    start.timer.input = false ∧ ¬(start.cfg.hwMode = .cgb ∧ start.cpu.speedPrepare = true) ∧
      (let s : State := { startCgb with timer.div := 0x0200, timer.tac := 4, timer.tima := 0xFF, cpu.speedPrepare := true };
        s.timer.input = true ∧ s.timer.tima = 0xFF#8 ∧ s.cfg.hwMode = .cgb ∧ s.cpu.speedPrepare = true) ∧
      (let s : State := { start with timer.div := 0x0200, timer.tac := 4, timer.tima := 0xFE };
        s.timer.input = true ∧ s.timer.tima ≠ 0xFF#8) := by decide

theorem witness_illegalOpcodesLock :
    (Instr.illegal_FD, 0xFD#8) ∈ [(Instr.illegal_D3, 0xD3#8), (.illegal_DB, 0xDB), (.illegal_DD, 0xDD), (.illegal_E3, 0xE3),
      (.illegal_E4, 0xE4), (.illegal_EB, 0xEB), (.illegal_EC, 0xEC), (.illegal_ED, 0xED), (.illegal_F4, 0xF4),
      (.illegal_FC, 0xFC), (.illegal_FD, 0xFD)] := by decide

theorem witness_lockedForever : (State.cpu { start with cpu.locked := true }).locked = true := by decide

/-- With the HALT bug armed and the stack at the top of memory, where IE is the first byte pushed to. -/
theorem witness_interruptDispatch :
    let s : State := { start with
      cpu.ime := true
      cpu.haltBug := true
      cpu.sp := 0x0000
      irq.ie := 0x1F
      irq.ifl := 0x18 }
    let t : State := { start with cpu.ime := true, cpu.sp := 0xC002, irq.ie := 0x01 }
    (s.cpu.locked = false ∧ s.cpu.runMode = .running ∧ s.cpu.ime = true ∧ s.nextPending = some .serial ∧
      (0xBFFF#16 : Word) = (if s.cpu.haltBug then s.cpu.pc - 1 else s.cpu.pc) ∧
      (s.place (s.cpu.sp - 1)).plain = true ∧ (s.place (s.cpu.sp - 2)).plain = true ∧
      s.stores (s.place (s.cpu.sp - 1)) = true ∧ s.stores (s.place (s.cpu.sp - 2)) = true ∧
      s.place 0xC000 ≠ s.place (s.cpu.sp - 1) ∧ s.place 0xC000 ≠ s.place (s.cpu.sp - 2)) ∧
      (t.cpu.locked = false ∧ t.cpu.runMode = .running ∧ t.cpu.ime = true ∧ t.nextPending = some .vblank ∧
        t.cpu.haltBug = false ∧ t.stores (t.place (t.cpu.sp - 1)) = true) := by decide

theorem witness_lowestPendingWins :
    let s : State := { start with irq.ie := 0xF0, irq.ifl := 0x1F }
    s.nextPending = some .joypad ∧ start.nextPending = none := by decide

theorem witness_enableDelay :
    let s : State := { start with cpu.imePending := true, wram := [(0x0000, 0xFB)] }
    let d : State := { start with cpu.imePending := true, wram := [(0x0000, 0xF3)] }
    let e : State := { start with wram := [(0x0000, 0xFB)] }
    let l : State := { start with cpu.locked := true }
    let h : State := { start with cpu.runMode := .halted }
    start.cpu.ime = false ∧
      (s.cpu.locked = false ∧ s.cpu.runMode = .running ∧ s.interruptDue = none ∧
        decode s.fetchWindow = .ok (.ei, [0x00, 0x00]) ∧ s.cpu.imePending = true ∧ Instr.ei ≠ .di) ∧
      (d.interruptDue = none ∧ decode d.fetchWindow = .ok (.di, [0x00, 0x00]) ∧ d.cpu.imePending = true) ∧
      (e.interruptDue = none ∧ decode e.fetchWindow = .ok (.ei, [0x00, 0x00]) ∧ e.cpu.imePending = false) ∧
      (start.interruptDue = none ∧ decode start.fetchWindow = .ok (.nop, [0x00, 0x00]) ∧ start.cpu.imePending = false ∧
        Instr.nop ≠ .di ∧ Instr.nop ≠ .ei ∧ Instr.nop ≠ .reti) ∧
      l.cpu.locked = true ∧ h.cpu.runMode ≠ .running := by decide

/-- One step for each of the four writers. -/
theorem witness_onlyFourWritersOfIme :
    runs { start with cpu.ime := true, irq.ie := 0x01 } (fun t => t.cpu.ime != true) = true ∧
      runs { start with cpu.ime := true, wram := [(0x0000, 0xF3)] } (fun t => t.cpu.ime != true) = true ∧
      runs { start with wram := [(0x0000, 0xD9)] } (fun t => t.cpu.ime != false) = true ∧
      runs { start with cpu.imePending := true } (fun t => t.cpu.ime != false) = true := by decide

theorem witness_idleAndWake :
    let h : State := { start with cpu.runMode := .halted }
    let w : State := { start with cpu.runMode := .halted, irq.ie := 0x1F }
    let p : State := { start with cpu.runMode := .stopped }
    let q : State := { start with cpu.runMode := .stopped, host.pressed := { Buttons.released with start := true } }
    (h.cpu.locked = false ∧ h.cpu.runMode = .halted ∧ h.irq.ie.extractLsb' 0 5 &&& h.irq.ifl = 0#5) ∧
      (w.cpu.locked = false ∧ w.cpu.runMode = .halted ∧ w.irq.ie.extractLsb' 0 5 &&& w.irq.ifl ≠ 0#5) ∧
      (p.cpu.locked = false ∧ p.cpu.runMode = .stopped ∧ p.p1Read.extractLsb' 0 4 = 0xF#4) ∧
      (q.cpu.locked = false ∧ q.cpu.runMode = .stopped ∧ q.p1Read.extractLsb' 0 4 ≠ 0xF#4) := by decide

theorem witness_configurationFixedAndSpeedOnlyByStop :
    let s : State := { startCgb with cpu.speedPrepare := true, wram := [(0x0000, 0x10)] }
    runs s (fun t => t.cpu.doubleSpeed != s.cpu.doubleSpeed) = true := by decide

theorem witness_cpuInvariantKept : start.CpuOk ∧ runs start (fun _ => true) = true :=
  ⟨⟨by decide, by decide, by decide, by decide⟩, by decide⟩

theorem witness_memoriesInvariantKept : start.MemoriesOk ∧ start.DmgQuiet ∧ runs start (fun _ => true) = true :=
  ⟨⟨⟨by decide, by simp [Memory.within, start, State.reset, State.resetFor, InitialData.default]⟩,
    ⟨by decide, by simp [Memory.within, start, State.reset, State.resetFor, InitialData.default]⟩,
    ⟨by decide, by simp [Memory.within, start, State.reset, State.resetFor, InitialData.default]⟩,
    ⟨by decide, by simp [Memory.within, start, State.reset, State.resetFor, InitialData.default]⟩,
    ⟨by decide, by unfold Memory.within; decide⟩,
    ⟨by decide, by simp [Memory.within, start, State.reset, State.resetFor, InitialData.default, Ppu.reset]⟩,
    ⟨by decide, by simp [Memory.within, start, State.reset, State.resetFor, InitialData.default, Ppu.reset]⟩,
    ⟨by decide, by simp [Memory.within, start, State.reset, State.resetFor, InitialData.default]⟩⟩,
    by unfold State.DmgQuiet; decide, by decide⟩

theorem witness_ppuInvariantKept : start.PpuOk ∧ runs start (fun _ => true) = true :=
  ⟨⟨by decide, by decide, by decide, by decide, (by unfold Frame.shaped; decide), (by intro f hf; exact absurd hf (by simp [start, State.reset, State.resetFor])), by decide⟩, by decide⟩

theorem witness_devicesInvariantKept : start.DevicesOk ∧ runs start (fun _ => true) = true :=
  ⟨⟨by decide, by decide, by decide, by decide, by decide, by decide⟩, by decide⟩

theorem witness_cartridgeAndModeInvariantKept :
    let s : State := { start with cfg.cart := { variant := .mbc1, romBanks := 4, ramSize := 8192, battery := false } }
    runs s (fun _ => true) = true ∧ s.CartOk ∧ s.DmgQuiet :=
  ⟨by decide, ⟨by decide, by decide, by decide⟩, by unfold State.DmgQuiet; decide⟩

theorem witness_resetValues : start.cfg.hwMode = .dmg ∧ startCgb.cfg.hwMode = .cgb := by decide

/-- Both ends of each range of `busStoresAndEcho`, an address of another place; and for cartridge RAM both ends of its window, a
cell of each variant and the ways to select none. -/
theorem witness_busStoresAndEcho :
    start.stores (start.place 0xC000) = true ∧ start.place 0xE001 ≠ start.place 0xC000 ∧
      (0xE000 ≤ (0xE000#16).toNat ∧ (0xE000#16).toNat < 0xFE00) ∧ (0xE000 ≤ (0xFDFF#16).toNat ∧ (0xFDFF#16).toNat < 0xFE00) ∧
      (0xC000 ≤ (0xDFFF#16).toNat ∧ (0xDFFF#16).toNat < 0xE000) ∧ 0xFF80 ≤ (0xFF80#16).toNat ∧ 0xFF80 ≤ (0xFFFF#16).toNat ∧
      (0xFEA0 ≤ (0xFEA0#16).toNat ∧ (0xFEFF#16).toNat < 0xFF00) ∧ start.place 0xFF03 = .unmapped ∧
      start.place 0xFF4D = .unmapped ∧ (0xA000 ≤ (0xA000#16).toNat ∧ (0xBFFF#16).toNat < 0xC000) := by decide

theorem witness_busStoresAndEcho_cells :
    let cell (v : CartVariant) (size : Nat) (on mode : Bool) (r : Byte) (a : Nat) : Option Nat :=
      let bank := (match v with
        | .noController | .mbc2 => 0
        | .mbc1 => if mode then r.toNat else 0
        | .mbc3 | .mbc5 => r.toNat)
      if v = .mbc2 then
        if on then some (a % 512) else none
      else if 0 < size ∧ (v = .noController ∨ on = true) ∧ (v = .mbc3 → bank ≤ 3) then
        some ((bank * 0x2000 + a % 0x2000) % size)
      else none
    (cell .noController 2048 false false 0 0xBFFF = some 0x7FF ∧ cell .noController 0 false false 0 0xA000 = none) ∧
      (cell .mbc1 32768 true true 3 0xA000 = some 0x6000 ∧ cell .mbc1 32768 true false 3 0xBFFF = some 0x1FFF ∧
        cell .mbc1 8192 true true 3 0xA000 = some 0 ∧ cell .mbc1 8192 false false 0 0xA000 = none) ∧
      (cell .mbc2 512 true false 0 0xBFFF = some 511 ∧ cell .mbc2 512 false false 0 0xA000 = none) ∧
      (cell .mbc3 32768 true false 3 0xBFFF = some 0x7FFF ∧ cell .mbc3 32768 true false 4 0xA000 = none ∧
        cell .mbc3 32768 true false 8 0xA000 = none) ∧
      (cell .mbc5 131072 true false 15 0xBFFF = some 0x1FFFF ∧ cell .mbc5 131072 false false 15 0xBFFF = none) := by decide

/-- Both ends of each address range; the first and the last dot of mode 3 and the dots beside them; V-blank; the LCD off. -/
theorem witness_ppuLocksVideoMemory :
    let s (l : Byte) (y d : Nat) : State := { State.reset with ppu.lcdc := l, ppu.ly := y, ppu.dot := d }
    let visible (s : State) : Bool := s.ppu.lcdc.getLsbD 7 = true ∧ s.ppu.ly < 144
    let third (s : State) : Bool := visible s ∧ 80 ≤ s.ppu.dot ∧ s.ppu.dot < 80 + s.cfg.mode3Len
    (0x8000 ≤ (0x8000#16).toNat ∧ (0x9FFF#16).toNat < 0xA000) ∧ (0xFE00 ≤ (0xFE00#16).toNat ∧ (0xFE9F#16).toNat < 0xFEA0) ∧
      third (s 0x91 0 80) = true ∧ third (s 0x91 143 251) = true ∧ third (s 0x91 0 79) = false ∧
      third (s 0x91 0 252) = false ∧ third (s 0x91 144 100) = false ∧ third (s 0x11 0 100) = false ∧
      visible (s 0x91 143 0) = true := by decide

/-- Both ends of each range of `mbc1Banking`. -/
theorem witness_mbc1Banking :
    let s (v : CartVariant) : State :=
      { start with cfg.cart := { variant := v, romBanks := 4, ramSize := 8192, battery := false } }
    (s .mbc1).cfg.cart.variant = .mbc1 ∧ (s .mbc1).cart.ramEnable = false ∧ (0x1FFF#16).toNat < 0x2000 ∧
      (0x2000 ≤ (0x2000#16).toNat ∧ (0x3FFF#16).toNat < 0x4000) ∧ (0x4000 ≤ (0x4000#16).toNat ∧ (0x5FFF#16).toNat < 0x6000) ∧
      (0x6000 ≤ (0x6000#16).toNat ∧ (0x7FFF#16).toNat < 0x8000) ∧ (0xA000 ≤ (0xA000#16).toNat ∧ (0xBFFF#16).toNat < 0xC000) ∧
      (s .noController).cfg.cart.variant ≠ .mbc1 ∧ (s .noController).cfg.cart.variant = .noController := by
  decide

theorem witness_mbc1Banking_others :
    let s (v : CartVariant) : State :=
      { start with cfg.cart := { variant := v, romBanks := 4, ramSize := 8192, battery := false } }
    ((s .mbc2).cfg.cart.variant = .mbc2 ∧ (0x3EFF#16).toNat < 0x4000 ∧ (0x3EFF#16).toNat / 256 % 2 = 0 ∧
      (0x3FFF#16).toNat < 0x4000 ∧ (0x3FFF#16).toNat / 256 % 2 = 1 ∧ (0x0100#16).toNat / 256 % 2 = 1) ∧
      (s .mbc3).cfg.cart.variant = .mbc3 ∧
      ((s .mbc5).cfg.cart.variant = .mbc5 ∧ 0x2000 ≤ (0x2FFF#16).toNat ∧ (0x2FFF#16).toNat < 0x3000 ∧
        0x3000 ≤ (0x3000#16).toNat ∧ (0x3000#16).toNat < 0x4000) := by decide

/-- A pending reload with and without a falling edge, an edge with and without an overflow. -/
theorem witness_timerCountsAndReloads :
    let s : State := { start with timer := { div := 0xFFFF, tima := 0xFF, tma := 0x10, tac := 4, reloadDelay := 1 } }
    let u : State := { start with timer := { div := 0x03FF, tima := 0xFF, tma := 0x10, tac := 4, reloadDelay := 0 } }
    ((s.timer.tac.extractLsb' 0 2).toNat = 0 ∧ s.timer.reloadDelay = 1 ∧ s.timer.tma ≠ 0xFF#8 ∧
      s.timer.tac.getLsbD 2 = true ∧ s.timer.div.toNat % 2 ^ (9 + 1) = 2 ^ (9 + 1) - 1) ∧
      (u.timer.reloadDelay ≠ 1 ∧ u.timer.tima = 0xFF#8 ∧ u.timer.tac.getLsbD 2 = true ∧
        u.timer.div.toNat % 2 ^ (9 + 1) = 2 ^ (9 + 1) - 1) ∧
      ¬(start.timer.tac.getLsbD 2 = true ∧ start.timer.div.toNat % 2 ^ (9 + 1) = 2 ^ (9 + 1) - 1) := by decide

theorem witness_framePositionAndVblank :
    let s : State := { State.reset with ppu.ly := 143, ppu.dot := 455 }
    (s.ppu.lcdOn = true ∧ s.ppu.ly < 154 ∧ s.ppu.dot < 456 ∧ s.ppuTick.ppu.ly = 144 ∧ s.ppuTick.ppu.dot = 0) ∧
      (State.reset.ppu.lcdOn = true ∧ ¬(State.reset.ppuTick.ppu.ly = 144 ∧ State.reset.ppuTick.ppu.dot = 0)) := by decide

theorem witness_statRequestOnRisingEdge :
    State.reset.ppu.lcdOn = true ∧ (State.ppuTick { State.reset with ppu.statEn := 4 }).ppu.statLine = true ∧
      State.reset.ppuTick.ppu.statLine = false := by decide

/-- Eleven sprites on line 0: the last is left out. Two opaque ones: a winner. No sprite: none. -/
theorem witness_spriteSelectionAndPriority :
    let s : State := { State.reset with oam := (List.range 11).map (fun i => (4 * i, 16)) }
    let t : State := { State.reset with
      ppu.lcdc := 0x93
      ppu.lineSprites := [0, 1]
      vram := Memory.ofBytes 16 (List.replicate 32 0xFF)
      oam := Memory.ofBytes 0 [16, 12, 1, 0x00, 16, 10, 2, 0x10] }
    (10 < 40 ∧ (Memory.read s.oam (4 * 10)).toNat ≤ s.ppu.ly + 16 ∧
      s.ppu.ly + 16 < (Memory.read s.oam (4 * 10)).toNat + (if s.ppu.lcdc.getLsbD 2 then 16 else 8) ∧
      10 ∉ s.selectSprites.ppu.lineSprites) ∧
      ((t.winningObj 4).map ObjPixel.index = some 1 ∧ (t.objPixel 0 4).isSome = true ∧ t.winningObj 1 = none) := by decide

theorem witness_joypadLinesAndRequest :
    let s := start.setButtons { Buttons.released with down := true, b := true }
    let u := s.busWrite 0xFF00 0x30
    (∃ k, k < 4 ∧ start.joypad.joyLines.getLsbD k = true ∧ s.joypad.joyLines.getLsbD k = false) ∧
      (∀ k, k < 4 → start.joypad.joyLines.getLsbD k = true →
        (start.setButtons Buttons.released).joypad.joyLines.getLsbD k = true) ∧
      (∃ k, k < 4 ∧ u.joypad.joyLines.getLsbD k = true ∧ (u.busWrite 0xFF00 0x20).joypad.joyLines.getLsbD k = false) :=
  ⟨⟨1, by decide⟩, by decide, ⟨3, by decide⟩⟩

theorem witness_serialTransferCompletes :
    ((0x81#8).getLsbD 7 = true ∧ (0x81#8).getLsbD 0 = true) ∧ 4095 < 4096 ∧
      ¬((0x80#8).getLsbD 7 = true ∧ (0x80#8).getLsbD 0 = true) ∧ ¬((0x01#8).getLsbD 7 = true ∧ (0x01#8).getLsbD 0 = true) := by
  decide

theorem witness_oamDmaCopies :
    159 < 160 ∧ 160 ≤ 160 ∧ 0xE0 ≤ (0xE0#8).toNat ∧ ¬0xE0 ≤ (0xDF#8).toNat := by decide

/-- Aligned addresses, the last destination among them; the three writes of HDMA5; a block with the length at 0 and above; no
block. -/
theorem witness_hblankDma :
    let s (l : BitVec 7) : State :=
      { startCgb with
        hdma := { src := 0xFFF0, dst := 0x1FF0, len := l, active := true }
        ppu.hblankEntered := true }
    ((s 0).hdma.src.extractLsb' 0 4 = 0#4 ∧ (s 0).hdma.dst.extractLsb' 0 4 = 0#4) ∧ startCgb.cfg.hwMode = .cgb ∧
      (0x80#8).getLsbD 7 = true ∧ ((0x7F#8).getLsbD 7 = false ∧ (s 0).hdma.active = true) ∧
      ((0x00#8).getLsbD 7 = false ∧ startCgb.hdma.active = false) ∧
      ((s 0).hdma.active = true ∧ (s 0).ppu.hblankEntered = true ∧ (s 0).hdma.len = 0#7 ∧ (s 0).cfg.hwMode = .cgb) ∧
      (s 0x7F).hdma.len ≠ 0#7 ∧ ¬(startCgb.hdma.active = true ∧ startCgb.ppu.hblankEntered = true) := by decide

/-- The dot at which line 0 enters mode 0 marks the entry; V-blank and the dot before do not. -/
theorem witness_hblankDma_entry :
    let s (y d : Nat) : State := { State.reset with ppu.ly := y, ppu.dot := d }
    (s 0 251).ppu.lcdOn = true ∧ (s 0 251).ppu.dot < 456 ∧ 80 + (s 0 251).cfg.mode3Len < 456 ∧
      (s 0 251).ppuTick.ppu.dot = 80 + (s 0 251).cfg.mode3Len ∧ (s 0 251).ppuTick.ppu.hblankEntered = true ∧
      (s 0 250).ppuTick.ppu.hblankEntered = false ∧ (s 150 251).ppuTick.ppu.hblankEntered = false := by decide


end Sys2Proof.Tests
end

namespace Sys2Proof.Machine

/-! ## Register updates and bus writes

All but a few instructions are a sequence of register updates and bus writes. What such a sequence keeps is proved once
for it, and not for each instruction. -/

/-- `v` differs from `u` in registers, flags, SP, PC and the cost alone, and a zero low nibble of F stays zero. -/
structure Cpu.RegistersOnly (u v : Cpu) : Prop where
  ime : v.ime = u.ime
  imePending : v.imePending = u.imePending
  runMode : v.runMode = u.runMode
  haltBug : v.haltBug = u.haltBug
  locked : v.locked = u.locked
  doubleSpeed : v.doubleSpeed = u.doubleSpeed
  speedPrepare : v.speedPrepare = u.speedPrepare
  lowNibble : u.f &&& 0x0F#8 = 0#8 → v.f &&& 0x0F#8 = 0#8

/-- `t` is reached from `s` by register updates and bus writes alone. -/
inductive State.Moves (s : State) : State → Prop where
  | refl : s.Moves s
  | registers {t : State} (h : s.Moves t) {u : Cpu} (hu : t.cpu.RegistersOnly u) : s.Moves { t with cpu := u }
  | write {t : State} (h : s.Moves t) (a : Word) (v : Byte) : s.Moves (t.busWrite a v)

namespace State.Moves
variable {s t : State}

theorem setReg (h : s.Moves t) (r : Reg8) (v : Byte) : s.Moves (t.setReg r v) :=
  h.registers (by constructor <;> simp)

theorem setPair (h : s.Moves t) (p : Pair) (v : Word) : s.Moves (t.setPair p v) :=
  h.registers (by constructor <;> simp)

theorem setStackPair (h : s.Moves t) (q : StackPair) (v : Word) : s.Moves (t.setStackPair q v) := by
  refine h.registers ⟨?_, ?_, ?_, ?_, ?_, ?_, ?_, fun hf => ?low⟩
  case low =>
    cases q with
    | af => exact clearLowNibble_low _
    | _ => exact hf
  all_goals simp

theorem setF (h : s.Moves t) (v : Byte) : s.Moves (t.setF v) :=
  h.registers ⟨rfl, rfl, rfl, rfl, rfl, rfl, rfl, fun _ => clearLowNibble_low v⟩

theorem setPc (h : s.Moves t) (v : Word) : s.Moves (t.setPc v) :=
  h.registers ⟨rfl, rfl, rfl, rfl, rfl, rfl, rfl, id⟩

theorem charge (h : s.Moves t) (c : Nat) : s.Moves (t.charge c) :=
  h.registers ⟨rfl, rfl, rfl, rfl, rfl, rfl, rfl, id⟩

theorem dropStack (h : s.Moves t) : s.Moves t.dropStack :=
  h.registers ⟨rfl, rfl, rfl, rfl, rfl, rfl, rfl, id⟩

theorem push8 (h : s.Moves t) (v : Byte) : s.Moves (t.push8 v) :=
  have hsp : t.cpu.RegistersOnly { t.cpu with sp := t.cpu.sp - 1 } := ⟨rfl, rfl, rfl, rfl, rfl, rfl, rfl, id⟩
  (h.registers hsp).write _ _

theorem push16 (h : s.Moves t) (v : Word) : s.Moves (t.push16 v) := (h.push8 _).push8 _

theorem memPost (h : s.Moves t) (m : MemOperand) : s.Moves (t.memPost m) := by
  cases m with
  | hlInc | hlDec => exact h.setPair _ _
  | _ => exact h

end State.Moves

/-! What a sequence of register updates and bus writes keeps. -/

theorem ioRegAt_dmg_ne_key1 (k : Nat) : ioRegAt .dmg k ≠ some .key1 := by
  show ioRegBoth k ≠ some .key1
  unfold ioRegBoth
  split <;> simp

/-- In DMG mode no address is that of KEY1 (63_io_devices R582). -/
theorem State.place_ne_key1 {s : State} (h : s.cfg.hwMode = .dmg) (a : Word) : s.place a ≠ .io .key1 := by
  intro e
  unfold State.place at e
  rw [h] at e
  dsimp only at e
  split_ifs at e
  split at e
  · rename_i r hr
    exact ioRegAt_dmg_ne_key1 _ (Place.io.inj e ▸ hr)
  · cases e

/-- The write of a place other than KEY1 leaves the CPU alone. -/
theorem State.writePlace_cpu (s : State) {p : Place} (hp : p ≠ .io .key1) (v : Byte) : (s.writePlace p v).cpu = s.cpu := by
  cases p with
  | rom k => dsimp only [State.writePlace, State.cartControl]; split <;> rfl
  | cartRam k =>
    dsimp only [State.writePlace, State.cartRamWrite]
    split
    · rfl
    · split <;> rfl
  | vram k | oam k => dsimp only [State.writePlace]; split <;> rfl
  | io r =>
    cases r with
    | key1 => exact absurd rfl hp
    | p1 => dsimp only [State.writePlace, State.ioWrite, State.p1Write]; rw [State.evalJoypad_changes]
    | dma => dsimp only [State.writePlace, State.ioWrite, State.oamDma]; rw [State.oamCopy_changes]
    | hdma5 => dsimp only [State.writePlace, State.ioWrite]; rw [State.hdma5Write_changes]
    | _ => rfl
  | _ => rfl

/-- In DMG mode a bus write leaves the CPU alone (10_state R41, 63_io_devices R582). -/
theorem State.busWrite_cpu_dmg {s : State} (h : s.cfg.hwMode = .dmg) (a : Word) (v : Byte) : (s.busWrite a v).cpu = s.cpu :=
  s.writePlace_cpu (State.place_ne_key1 h a) v

theorem State.busWrite_storeControlKept (s : State) (a : Word) (v : Byte) : s.storeControlKept (s.busWrite a v) := by
  unfold State.storeControlKept
  rw [(s.busWrite_cpu_cfg a v).1]
  exact ⟨rfl, rfl, rfl, rfl, rfl, rfl⟩

theorem State.storeControlKept.trans {s t u : State} (h : s.storeControlKept t) (h' : t.storeControlKept u) :
    s.storeControlKept u := by
  obtain ⟨h1, h2, h3, h4, h5, h6⟩ := h
  obtain ⟨k1, k2, k3, k4, k5, k6⟩ := h'
  exact ⟨k1.trans h1, k2.trans h2, k3.trans h3, k4.trans h4, k5.trans h5, k6.trans h6⟩

namespace State.Moves
variable {s t : State}

theorem cfg (h : s.Moves t) : t.cfg = s.cfg := by
  induction h with
  | refl => rfl
  | registers _ _ ih => exact ih
  | write _ a v ih => exact (State.busWrite_cfg _ a v).trans ih

theorem controlKept (h : s.Moves t) : s.storeControlKept t := by
  induction h with
  | refl => exact ⟨rfl, rfl, rfl, rfl, rfl, rfl⟩
  | registers _ hu ih => exact ih.trans ⟨hu.ime, hu.imePending, hu.runMode, hu.haltBug, hu.locked, hu.doubleSpeed⟩
  | write _ a v ih => exact ih.trans (State.busWrite_storeControlKept _ a v)

theorem speedPrepare_dmg (h : s.Moves t) (hm : s.cfg.hwMode = .dmg) : t.cpu.speedPrepare = s.cpu.speedPrepare := by
  induction h with
  | refl => rfl
  | registers _ hu ih => exact hu.speedPrepare.trans ih
  | write h a v ih => rw [State.busWrite_cpu_dmg (h.cfg ▸ hm)]; exact ih

theorem lowNibble (h : s.Moves t) (hf : s.cpu.f &&& 0x0F#8 = 0#8) : t.cpu.f &&& 0x0F#8 = 0#8 := by
  induction h with
  | refl => exact hf
  | registers _ hu ih => exact hu.lowNibble ih
  | write _ a v ih => rw [State.busWrite_f]; exact ih

end State.Moves

/-! ## What an instruction can do -/

/-- The costs of CPU steps (30_encoding R200, 60_exceptions R449). -/
abbrev costOk (c : Nat) : Prop := c % 4 = 0 ∧ c ≤ 24

theorem AluSrc.cost_ok (x : AluSrc) : costOk x.cost := by
  cases x <;> simp [AluSrc.cost, costOk]

/-- `t` is what an instruction that leaves the control state to others makes of `s`: register updates and bus writes, and a
cost. -/
structure State.Ordinary (s t : State) : Prop where
  moves : s.Moves t
  cost : costOk t.cpu.cost

namespace State.Ordinary
variable {s : State} {c : Nat}

theorem of_charge {t : State} (h : s.Moves t) (hc : costOk c) : s.Ordinary (t.charge c) := ⟨h.charge c, hc⟩

theorem nopOp : s.Ordinary s.nopOp := of_charge .refl (by decide)

/-! Loads and the stack. -/

theorem ldReg (hc : costOk c) (dst : Reg8) (v : Byte) : s.Ordinary (s.ldReg dst v c) :=
  of_charge (.setReg .refl _ _) hc

theorem loadMem (hc : costOk c) (dst : Reg8) (m : MemOperand) : s.Ordinary (s.loadMem dst m c) :=
  of_charge (.memPost (.setReg .refl _ _) _) hc

theorem storeMem (hc : costOk c) (m : MemOperand) (v : Byte) : s.Ordinary (s.storeMem m v c) :=
  of_charge (.memPost (.write .refl _ _) _) hc

theorem ldPair (p : Pair) (nn : Word) : s.Ordinary (s.ldPair p nn) := of_charge (.setPair .refl _ _) (by decide)

theorem ldMemSp (nn : Word) : s.Ordinary (s.ldMemSp nn) := of_charge (.write (.write .refl _ _) _ _) (by decide)

theorem ldSpHl : s.Ordinary s.ldSpHl := of_charge (.setPair .refl _ _) (by decide)

theorem ldHlSp (e : Byte) : s.Ordinary (s.ldHlSp e) := of_charge (.setF (.setPair .refl _ _) _) (by decide)

theorem pushPair (q : StackPair) : s.Ordinary (s.pushPair q) := of_charge (.push16 .refl _) (by decide)

theorem popPair (q : StackPair) : s.Ordinary (s.popPair q) :=
  of_charge (.setStackPair (.dropStack .refl) _ _) (by decide)

/-! Arithmetic and logic. -/

theorem alu (o : AluOp) (x : AluSrc) : s.Ordinary (s.alu o x) := of_charge (.setF (.setReg .refl _ _) _) x.cost_ok

theorem incReg (dst : Reg8) : s.Ordinary (s.incReg dst) := of_charge (.setF (.setReg .refl _ _) _) (by decide)

theorem decReg (dst : Reg8) : s.Ordinary (s.decReg dst) := of_charge (.setF (.setReg .refl _ _) _) (by decide)

theorem incMem : s.Ordinary s.incMem := of_charge (.setF (.write .refl _ _) _) (by decide)

theorem decMem : s.Ordinary s.decMem := of_charge (.setF (.write .refl _ _) _) (by decide)

theorem daaOp : s.Ordinary s.daaOp := of_charge (.setF (.setReg .refl _ _) _) (by decide)

theorem cplOp : s.Ordinary s.cplOp := of_charge (.setF (.setReg .refl _ _) _) (by decide)

theorem scfOp : s.Ordinary s.scfOp := of_charge (.setF .refl _) (by decide)

theorem ccfOp : s.Ordinary s.ccfOp := of_charge (.setF .refl _) (by decide)

theorem addHl (p : Pair) : s.Ordinary (s.addHl p) := of_charge (.setF (.setPair .refl _ _) _) (by decide)

theorem incPair (p : Pair) : s.Ordinary (s.incPair p) := of_charge (.setPair .refl _ _) (by decide)

theorem decPair (p : Pair) : s.Ordinary (s.decPair p) := of_charge (.setPair .refl _ _) (by decide)

theorem addSp (e : Byte) : s.Ordinary (s.addSp e) := of_charge (.setF (.setPair .refl _ _) _) (by decide)

/-! Rotates, shifts and bits. -/

theorem rotateA (o : ShiftOp) : s.Ordinary (s.rotateA o) := of_charge (.setF (.setReg .refl _ _) _) (by decide)

theorem shiftReg (o : ShiftOp) (dst : Reg8) : s.Ordinary (s.shiftReg o dst) :=
  of_charge (.setF (.setReg .refl _ _) _) (by decide)

theorem shiftMem (o : ShiftOp) : s.Ordinary (s.shiftMem o) := of_charge (.setF (.write .refl _ _) _) (by decide)

theorem bitReg (b : Fin 8) (r : Reg8) : s.Ordinary (s.bitReg b r) := of_charge (.setF .refl _) (by decide)

theorem bitMem (b : Fin 8) : s.Ordinary (s.bitMem b) := of_charge (.setF .refl _) (by decide)

theorem resReg (b : Fin 8) (dst : Reg8) : s.Ordinary (s.resReg b dst) := of_charge (.setReg .refl _ _) (by decide)

theorem resMem (b : Fin 8) : s.Ordinary (s.resMem b) := of_charge (.write .refl _ _) (by decide)

theorem setBitReg (b : Fin 8) (dst : Reg8) : s.Ordinary (s.setBitReg b dst) :=
  of_charge (.setReg .refl _ _) (by decide)

theorem setBitMem (b : Fin 8) : s.Ordinary (s.setBitMem b) := of_charge (.write .refl _ _) (by decide)

theorem pick4 {x : Fin 4} {t0 t1 t2 t3 : State} (h0 : s.Ordinary t0) (h1 : s.Ordinary t1) (h2 : s.Ordinary t2)
    (h3 : s.Ordinary t3) : s.Ordinary (Sys2Proof.pick4 x t0 t1 t2 t3) := by
  fin_cases x
  exacts [h0, h1, h2, h3]

theorem cbOp (k : Byte) : s.Ordinary (s.cbOp k) := by
  unfold State.cbOp
  split
  · exact pick4 (shiftReg _ _) (bitReg _ _) (resReg _ _) (setBitReg _ _)
  · exact pick4 (shiftMem _) (bitMem _) (resMem _) (setBitMem _)

/-! Control transfers. -/

theorem jump (hc : costOk c) (nn : Word) : s.Ordinary (s.jump nn c) := of_charge (.setPc .refl _) hc

theorem jumpRel (e : Byte) : s.Ordinary (s.jumpRel e) := of_charge (.setPc .refl _) (by decide)

theorem call (hc : costOk c) (nn : Word) : s.Ordinary (s.call nn c) := of_charge (.setPc (.push16 .refl _) _) hc

theorem ret (hc : costOk c) : s.Ordinary (s.ret c) := of_charge (.setPc (.dropStack .refl) _) hc

/-- A conditional transfer that is not taken costs `c` and does nothing else. -/
theorem ifTaken {p : Bool} {t : State} (ht : s.Ordinary t) (hc : costOk c) :
    s.Ordinary (if p then t else s.charge c) := by
  cases p
  exacts [of_charge .refl hc, ht]

theorem jumpIf (cc : Cond) (nn : Word) : s.Ordinary (s.jumpIf cc nn) := ifTaken (jump (by decide) nn) (by decide)

theorem jumpRelIf (cc : Cond) (e : Byte) : s.Ordinary (s.jumpRelIf cc e) := ifTaken (jumpRel e) (by decide)

theorem callIf (cc : Cond) (nn : Word) : s.Ordinary (s.callIf cc nn) := ifTaken (call (by decide) nn) (by decide)

theorem retIf (cc : Cond) : s.Ordinary (s.retIf cc) := ifTaken (ret (by decide)) (by decide)

end State.Ordinary

/-- What an instruction makes of a state: the instructions that write the control state by name, the others as a
sequence of register updates and bus writes. -/
inductive State.Effect (s : State) : Instr → State → Prop where
  | ordinary {i : Instr} {t : State} (h : s.Ordinary t) : s.Effect i t
  | stop (x : Byte) : s.Effect (.stop x) s.stopOp
  | halt : s.Effect .halt s.haltOp
  | di : s.Effect .di s.diOp
  | ei : s.Effect .ei s.eiOp
  | reti : s.Effect .reti s.retiOp
  | illegal {i : Instr} : s.Effect i s.illegalOp

open State.Ordinary in
/-- Every instruction answers, and what it can do is said by `State.Effect`. -/
theorem exec_effect (i : Instr) (s : State) : ∃ t, exec i s = .next t ∧ s.Effect i t := by
  cases i
  case stop x => exact ⟨_, rfl, .stop x⟩
  case halt => exact ⟨_, rfl, .halt⟩
  case di => exact ⟨_, rfl, .di⟩
  case ei => exact ⟨_, rfl, .ei⟩
  case reti => exact ⟨_, rfl, .reti⟩
  case illegal_D3 | illegal_DB | illegal_DD | illegal_E3 | illegal_E4 | illegal_EB | illegal_EC | illegal_ED | illegal_F4 |
      illegal_FC | illegal_FD => exact ⟨_, rfl, .illegal⟩
  all_goals
    refine ⟨_, rfl, .ordinary ?_⟩
    simp only [nopOp, ldReg, loadMem, storeMem, ldPair, ldMemSp, ldSpHl, ldHlSp, pushPair, popPair, alu, incReg, decReg,
      incMem, decMem, daaOp, cplOp, scfOp, ccfOp, addHl, incPair, decPair, addSp, rotateA, shiftReg, shiftMem, bitReg, bitMem,
      resReg, resMem, setBitReg, setBitMem, cbOp, jump, jumpRel, call, ret, jumpIf, jumpRelIf, callIf, retIf, costOk,
      Nat.reduceMod, Nat.reduceLeDiff, and_self]

/-! What each instruction keeps, from its effect. -/

namespace State.Effect
variable {s t : State} {i : Instr}

theorem cfg (h : s.Effect i t) : t.cfg = s.cfg := by
  cases h with
  | ordinary h => exact h.moves.cfg
  | stop => unfold State.stopOp; split <;> rfl
  | halt => unfold State.haltOp; split_ifs <;> rfl
  | _ => rfl

/-- The speed changes in a STOP of CGB mode with the switch prepared (10_state R41, 47_system R413). -/
theorem stop_of_doubleSpeed_ne (h : s.Effect i t) (hd : t.cpu.doubleSpeed ≠ s.cpu.doubleSpeed) :
    s.cfg.hwMode = .cgb ∧ s.cpu.speedPrepare = true ∧ ∃ x, i = .stop x := by
  cases h with
  | ordinary h =>
    obtain ⟨-, -, -, -, -, hs⟩ := h.moves.controlKept
    exact absurd hs hd
  | stop x =>
    unfold State.stopOp at hd
    split at hd
    · rename_i hp
      exact ⟨hp.1, hp.2, x, rfl⟩
    · exact absurd rfl hd
  | halt =>
    unfold State.haltOp at hd
    split_ifs at hd <;> exact absurd rfl hd
  | _ => exact absurd rfl hd

/-- An instruction keeps the CPU's invariant: it starts running, with the HALT bug disarmed by the fetch and not locked. -/
theorem cpuOk (h : s.Effect i t) (hs : s.CpuOk) (hrun : s.cpu.runMode = .running) (hbug : s.cpu.haltBug = false)
    (hlock : s.cpu.locked = false) : t.CpuOk := by
  obtain ⟨hlow, -, hdmg, -⟩ := hs
  have hcost : costOk 4 := by decide
  cases h with
  | ordinary h =>
    obtain ⟨-, -, hmode, -, -, hspeed⟩ := h.moves.controlKept
    refine ⟨h.moves.lowNibble hlow, fun hidle => absurd (hmode.trans hrun) hidle, fun hm => ?_, h.cost⟩
    have hm' : s.cfg.hwMode = .dmg := h.moves.cfg ▸ hm
    exact ⟨hspeed.trans (hdmg hm').1, (h.moves.speedPrepare_dmg hm').trans (hdmg hm').2⟩
  | stop =>
    unfold State.stopOp
    split
    · rename_i hp
      exact ⟨hlow, fun hidle => absurd hrun hidle, fun hm => absurd (hm.symm.trans hp.1) nofun, hcost⟩
    · exact ⟨hlow, fun _ => ⟨hbug, hlock⟩, hdmg, hcost⟩
  | halt =>
    unfold State.haltOp
    split_ifs
    · exact ⟨hlow, fun _ => ⟨hbug, hlock⟩, hdmg, hcost⟩
    · exact ⟨hlow, fun hidle => absurd hrun hidle, hdmg, hcost⟩
    · exact ⟨hlow, fun hidle => absurd hrun hidle, hdmg, hcost⟩
  | reti => exact ⟨hlow, fun hidle => absurd hrun hidle, hdmg, (by decide : costOk 16)⟩
  | _ => exact ⟨hlow, fun hidle => absurd hrun hidle, hdmg, hcost⟩

end State.Effect

/-! ## What a CPU step and a system step keep -/

/-- An instruction step that answers decoded an instruction, whose effect it has, and then ended the EI delay. -/
theorem State.instructionStep_next {s t : State} (h : s.instructionStep = .next t) :
    ∃ i rest u, decode s.fetchWindow = .ok (i, rest) ∧ (s.afterFetch (3 - rest.length)).Effect i u ∧
      t = u.finishEi s.cpu.imePending := by
  unfold State.instructionStep at h
  split at h
  · cases h
  · rename_i i rest hdec
    obtain ⟨u, hu, heff⟩ := exec_effect i (s.afterFetch (3 - rest.length))
    rw [hu] at h
    exact ⟨i, rest, u, hdec, heff, (Host.Outcome.next.inj h).symm⟩

/-- The end of the EI delay changes IME and the delay alone. -/
theorem State.finishEi_changes (s : State) (p : Bool) :
    s.finishEi p = { s with cpu.ime := (s.finishEi p).cpu.ime, cpu.imePending := (s.finishEi p).cpu.imePending } := by
  unfold State.finishEi
  split <;> rfl

@[simp] theorem State.finishEi_doubleSpeed (s : State) (p : Bool) : (s.finishEi p).cpu.doubleSpeed = s.cpu.doubleSpeed := by
  rw [State.finishEi_changes]

@[simp] theorem State.wakeIf_doubleSpeed (s : State) (p : Bool) : (s.wakeIf p).cpu.doubleSpeed = s.cpu.doubleSpeed := by
  unfold State.wakeIf
  split <;> rfl

/-- A dispatch is register updates and bus writes from a state with the HALT bug disarmed, IME cleared, and an acknowledge
(60_exceptions R438, R439). -/
theorem State.dispatch_moves (s : State) (k : IrqSource) :
    ∃ u, State.Moves { s with cpu.haltBug := false } u ∧
      s.dispatch k = ((State.acknowledge { u with cpu.ime := false, cpu.imePending := false } k).setPc k.vector).charge 20 :=
  ⟨_, .push16 .refl _, rfl⟩

@[simp] theorem State.takeHostInput_cpu (s : State) : s.takeHostInput.cpu = s.cpu := by
  rw [State.takeHostInput_changes]

@[simp] theorem State.takeHostInput_cfg (s : State) : s.takeHostInput.cfg = s.cfg := by
  rw [State.takeHostInput_changes]

@[simp] theorem State.runDevices_cpu (s : State) : s.runDevices.cpu = s.cpu := (s.deviceCycles_cpu_cfg _).1

@[simp] theorem State.runDevices_cfg (s : State) : s.runDevices.cfg = s.cfg := (s.deviceCycles_cpu_cfg _).2

/-- What a CPU step that answers made of the state, the three idle cases in one. -/
theorem State.cpuStep_next {s t : State} (h : s.cpuStep = .next t) :
    (∃ p, t = (s.wakeIf p).charge 4) ∨ (∃ k, s.cpu.runMode = .running ∧ t = s.dispatch k) ∨
      (s.cpu.locked = false ∧ s.cpu.runMode = .running ∧ s.instructionStep = .next t) := by
  rcases s.cpuStep_cases with ⟨-, hc⟩ | ⟨-, -, hc⟩ | ⟨-, -, hc⟩ | ⟨k, -, hrun, -, hc⟩ | ⟨hlock, hrun, -, hc⟩
  · exact .inl ⟨false, Host.Outcome.next.inj (h.symm.trans hc)⟩
  · exact .inl ⟨_, Host.Outcome.next.inj (h.symm.trans hc)⟩
  · exact .inl ⟨_, Host.Outcome.next.inj (h.symm.trans hc)⟩
  · exact .inr (.inl ⟨k, hrun, Host.Outcome.next.inj (h.symm.trans hc)⟩)
  · exact .inr (.inr ⟨hlock, hrun, hc.symm.trans h⟩)

theorem State.cpuStep_cfg {s t : State} (h : s.cpuStep = .next t) : t.cfg = s.cfg := by
  obtain ⟨p, rfl⟩ | ⟨k, -, rfl⟩ | ⟨-, -, h⟩ := State.cpuStep_next h
  · simp
  · obtain ⟨u, hu, hd⟩ := s.dispatch_moves k
    rw [hd]
    exact hu.cfg
  · obtain ⟨i, rest, u, -, heff, rfl⟩ := State.instructionStep_next h
    simpa using heff.cfg

/-- The speed changes in an instruction step alone, and there in a prepared STOP of CGB mode (10_state R41). -/
theorem State.cpuStep_doubleSpeed {s t : State} (h : s.cpuStep = .next t) (hne : t.cpu.doubleSpeed ≠ s.cpu.doubleSpeed) :
    s.cfg.hwMode = .cgb ∧ s.cpu.speedPrepare = true ∧ ∃ x rest, decode s.fetchWindow = .ok (.stop x, rest) := by
  obtain ⟨p, rfl⟩ | ⟨k, -, rfl⟩ | ⟨-, -, h⟩ := State.cpuStep_next h
  · exact absurd (by simp) hne
  · obtain ⟨u, hu, hd⟩ := s.dispatch_moves k
    obtain ⟨-, -, -, -, -, hspeed⟩ := hu.controlKept
    rw [hd] at hne
    exact absurd hspeed hne
  · obtain ⟨i, rest, u, hdec, heff, rfl⟩ := State.instructionStep_next h
    obtain ⟨hm, hp, x, rfl⟩ := heff.stop_of_doubleSpeed_ne (by simpa using hne)
    exact ⟨hm, hp, x, rest, hdec⟩

/-! The CPU's invariant. -/

namespace State.CpuOk
variable {s : State}

/-- The invariant speaks of the CPU and the configuration alone. -/
theorem of_same {t : State} (hs : s.CpuOk) (hcpu : t.cpu = s.cpu) (hcfg : t.cfg = s.cfg) : t.CpuOk := by
  obtain ⟨hlow, hidle, hdmg, hcost⟩ := hs
  refine ⟨?_, ?_, ?_, ?_⟩ <;> simp only [hcpu, hcfg]
  exacts [hlow, hidle, hdmg, hcost]

theorem charge (hs : s.CpuOk) {c : Nat} (hc : costOk c) : (s.charge c).CpuOk :=
  ⟨hs.lowNibble, hs.idleMode, hs.dmgSpeed, hc⟩

theorem wakeIf (hs : s.CpuOk) (p : Bool) : (s.wakeIf p).CpuOk := by
  unfold State.wakeIf
  split
  · exact ⟨hs.lowNibble, fun hidle => absurd rfl hidle, hs.dmgSpeed, hs.cost⟩
  · exact hs

theorem afterFetch (hs : s.CpuOk) (n : Nat) : (s.afterFetch n).CpuOk :=
  ⟨hs.lowNibble, fun hidle => ⟨rfl, (hs.idleMode hidle).2⟩, hs.dmgSpeed, hs.cost⟩

theorem finishEi (hs : s.CpuOk) (p : Bool) : (s.finishEi p).CpuOk := by
  rw [State.finishEi_changes]
  exact ⟨hs.lowNibble, hs.idleMode, hs.dmgSpeed, hs.cost⟩

theorem dispatch (hs : s.CpuOk) (hrun : s.cpu.runMode = .running) (k : IrqSource) : (s.dispatch k).CpuOk := by
  obtain ⟨u, hu, hd⟩ := s.dispatch_moves k
  obtain ⟨-, -, hmode, -, -, hspeed⟩ := hu.controlKept
  rw [hd]
  refine ⟨hu.lowNibble hs.lowNibble, fun hidle => absurd (hmode.trans hrun) hidle, fun hm => ?_, (by decide : costOk 20)⟩
  have hm' : s.cfg.hwMode = .dmg := hu.cfg ▸ hm
  exact ⟨hspeed.trans (hs.dmgSpeed hm').1, (hu.speedPrepare_dmg hm').trans (hs.dmgSpeed hm').2⟩

theorem cpuStep {t : State} (hs : s.CpuOk) (h : s.cpuStep = .next t) : t.CpuOk := by
  obtain ⟨p, rfl⟩ | ⟨k, hrun, rfl⟩ | ⟨hlock, hrun, h⟩ := State.cpuStep_next h
  · exact (hs.wakeIf p).charge (by decide)
  · exact hs.dispatch hrun k
  · obtain ⟨i, rest, u, -, heff, rfl⟩ := State.instructionStep_next h
    exact (heff.cpuOk (hs.afterFetch _) hrun rfl hlock).finishEi _

end State.CpuOk

/-- Settles O42: the host's move and the devices leave the CPU alone, and each case of the CPU step keeps the invariant. -/
theorem cpuInvariantKept : Obligations.cpuInvariantKept := by
  intro s t hs h
  obtain ⟨u, hu, rfl⟩ := step_next h
  have hin : s.takeHostInput.CpuOk := hs.of_same (by simp) (by simp)
  exact (hin.cpuStep hu).of_same (by simp) (by simp)

/-- Settles O41: the host's move and the devices leave the CPU and the configuration alone, and of the CPU step only a STOP
writes the speed. -/
theorem configurationFixedAndSpeedOnlyByStop : Obligations.configurationFixedAndSpeedOnlyByStop := by
  refine ⟨fun s t h => ?_, fun s t h hne => ?_⟩ <;> obtain ⟨u, hu, rfl⟩ := step_next h
  · simpa using State.cpuStep_cfg hu
  · simpa using State.cpuStep_doubleSpeed hu (by simpa using hne)

end Sys2Proof.Machine

namespace Sys2Proof.Machine

/-! ## The state after reset -/

/-- No button is pressed, so the four lines of the joypad are high (63_io_devices R570). -/
theorem State.resetFor_lines (cfg : Config) (d : InitialData) : (State.resetFor cfg d).lines = 0xF#4 := by
  simp [State.lines, State.resetFor, Buttons.dirPressed, Buttons.actPressed, Buttons.released]

/-- The first dot of a line is in the OAM scan (62_ppu R513). -/
theorem State.resetFor_ppuMode (cfg : Config) (d : InitialData) : (State.resetFor cfg d).ppuMode = .oamScan := by
  simp [State.ppuMode, Ppu.mode, Ppu.lcdOn, State.resetFor, Ppu.reset]

/-- The registers of both modes whose read joins several fields, right after reset (70_reset_and_hazards R614). -/
theorem State.resetFor_joinedReads (cfg : Config) (d : InitialData) :
    (State.resetFor cfg d).ioRead .p1 = 0xCF ∧
      (State.resetFor cfg d).ioRead .sc = (if cfg.hwMode = .dmg then 0x7E else 0x7C) ∧
      (State.resetFor cfg d).ioRead .tac = 0xF8 ∧ (State.resetFor cfg d).ioRead .ifReg = 0xE1 ∧
      (State.resetFor cfg d).ioRead .stat = 0x86 := by
  refine ⟨?p1, ?sc, ?tac, ?ifReg, ?stat⟩
  case p1 =>
    simp only [State.ioRead, State.p1Read, State.resetFor_lines]
    show 0b11#2 ++ 0#2 ++ 0xF#4 = 0xCF#8
    rfl
  case sc =>
    simp only [State.ioRead, State.scRead, State.resetFor]
    cases cfg.hwMode <;> rfl
  case tac => show 0b11111#5 ++ 0#3 = 0xF8#8; rfl
  case ifReg => show 0b111#3 ++ 1#5 = 0xE1#8; rfl
  case stat =>
    simp only [State.ioRead, State.statRead, State.resetFor_ppuMode]
    show 1#1 ++ 0#4 ++ BitVec.ofBool true ++ 2#2 = 0x86#8
    rfl

/-- The registers of CGB mode alone whose read joins several fields, right after reset (70_reset_and_hazards R614). -/
theorem State.resetFor_joinedCgbReads (cfg : Config) (d : InitialData) :
    (State.resetFor cfg d).ioRead .key1 = 0x7E ∧ (State.resetFor cfg d).ioRead .vbk = 0xFE ∧
      (State.resetFor cfg d).ioRead .hdma5 = 0xFF ∧ (State.resetFor cfg d).ioRead .bcps = 0x40 ∧
      (State.resetFor cfg d).ioRead .ocps = 0x40 ∧ (State.resetFor cfg d).ioRead .svbk = 0xF8 := by
  have hspeed : (Cpu.reset cfg.hwMode).doubleSpeed = false ∧ (Cpu.reset cfg.hwMode).speedPrepare = false := by
    cases cfg.hwMode <;> exact ⟨rfl, rfl⟩
  simp [State.ioRead, State.resetFor, Ppu.reset, PaletteIndex.read, hspeed]

/-- Settles O48, by the mode: the address decoder finds each register, and its read is the field reset gives it. -/
theorem resetValues : Obligations.resetValues := by
  refine ⟨?_, ?_⟩
  · rintro ⟨mode, _, _, _, _⟩ d u rfl
    cases mode with
    | dmg => exact ⟨fun _ => by and_intros <;> rfl, nofun, by and_intros <;> rfl⟩
    | cgb => exact ⟨nofun, fun _ => by and_intros <;> rfl, by and_intros <;> rfl⟩
  · rintro ⟨mode, len, cart, rom, apu⟩ d s rfl
    obtain ⟨p1, sc, tac, ifReg, stat⟩ := State.resetFor_joinedReads ⟨mode, len, cart, rom, apu⟩ d
    obtain ⟨key1, vbk, hdma5, bcps, ocps, svbk⟩ := State.resetFor_joinedCgbReads ⟨mode, len, cart, rom, apu⟩ d
    refine ⟨?both, ?cgb⟩
    case both =>
      cases mode <;>
        exact ⟨p1, rfl, sc, rfl, rfl, rfl, tac, ifReg, rfl, stat, rfl, rfl, rfl, rfl, rfl, rfl, rfl, rfl, rfl, rfl, rfl⟩
    case cgb =>
      rintro rfl
      exact ⟨key1, vbk, rfl, rfl, rfl, rfl, hdma5, bcps, ocps, svbk⟩

theorem Memory.nil_wf_within (n : Nat) : Memory.wf [] ∧ Memory.within [] n := by
  simp [Memory.wf, Memory.within]

theorem Frame.blank_shaped (m : HwMode) : (Frame.blank m).shaped := by
  simp [Frame.blank, Frame.shaped]

/-- Settles O47: every memory but the APU's lists nothing, and the ranges are read off the reset values. -/
theorem resetMeetsInvariants : Obligations.resetMeetsInvariants := by
  refine ⟨?cpu, ?memories, ?ppu, ?devices, ?cart, ?quiet⟩
  case cpu => exact ⟨by decide, by decide, by decide, by decide⟩
  case memories =>
    have empty := Memory.nil_wf_within
    exact ⟨empty _, empty _, empty _, empty _, ⟨by decide, by unfold Memory.within; decide⟩, empty _, empty _, empty _⟩
  case ppu => exact ⟨by decide, by decide, by decide, by decide, Frame.blank_shaped _, nofun, by decide⟩
  case devices => exact ⟨by decide, by decide, by decide, by decide, by decide, (State.resetFor_lines _ _).symm⟩
  case cart => trivial
  case quiet => exact fun _ => ⟨rfl, rfl, rfl, rfl, rfl, rfl, rfl⟩

end Sys2Proof.Machine

namespace Sys2Proof.Machine

/-! ## Where an address can lead -/

/-- The I/O registers an address of mode `m` can name: an APU register lies below 0xFF40, and a register of CGB mode has no
address in DMG mode (20_memory R91, 63_io_devices R582). -/
def IoReg.mappedIn (m : HwMode) : IoReg → Prop
  | .apu k => k < 0x40
  | .key1 | .vbk | .hdma1 | .hdma2 | .hdma3 | .hdma4 | .hdma5 | .bcps | .bcpd | .ocps | .ocpd | .svbk => m = .cgb
  | _ => True

theorem ioRegBoth_mappedIn {k : Nat} {r : IoReg} (h : ioRegBoth k = some r) (m : HwMode) : r.mappedIn m := by
  unfold ioRegBoth at h
  split at h
  case h_22 =>
    split at h
    · rename_i hk
      cases h
      simp only [apuMapped, Bool.or_eq_true, decide_eq_true_eq] at hk
      show k < 0x40
      omega
    · cases h
  all_goals cases h; trivial

theorem ioRegCgb_mappedIn {k : Nat} {r : IoReg} (h : ioRegCgb k = some r) : r.mappedIn .cgb := by
  unfold ioRegCgb at h
  split at h <;> cases h <;> rfl

theorem ioRegAt_mappedIn {m : HwMode} {k : Nat} {r : IoReg} (h : ioRegAt m k = some r) : r.mappedIn m := by
  cases m with
  | dmg => exact ioRegBoth_mappedIn h .dmg
  | cgb =>
    rcases (Option.orElse_eq_some _ _ _).1 h with hb | ⟨-, hc⟩
    · exact ioRegBoth_mappedIn hb .cgb
    · exact ioRegCgb_mappedIn hc

/-- The index of a place is below the size of its memory, and a register is one of the mode. -/
def Place.inRange (cfg : Config) : Place → Prop
  | .vram k => k < Config.vramSize cfg
  | .wram k => k < Config.wramSize cfg
  | .oam k => k < 160
  | .hram k => k < 127
  | .io r => r.mappedIn cfg.hwMode
  | _ => True

theorem State.vramIndex_lt (s : State) {a : Nat} (h : a < 0xA000) : s.vramIndex a < Config.vramSize s.cfg := by
  have hv := s.vbk.isLt
  cases hm : s.cfg.hwMode <;> simp only [State.vramIndex, Config.vramSize, hm] <;> omega

theorem State.wramIndex_lt (s : State) {a : Nat} (h : a < 0xE000) : s.wramIndex a < Config.wramSize s.cfg := by
  have hv := s.svbk.isLt
  unfold State.wramIndex State.wramBank Config.wramSize
  cases s.cfg.hwMode with
  | dmg => dsimp only; split_ifs <;> omega
  | cgb => dsimp only; split_ifs <;> omega

/-- The address decoder leads to an index below the size of its memory, or to a register of the mode (20_memory R81 to R93). -/
theorem State.place_inRange (s : State) (a : Word) : (s.place a).inRange s.cfg := by
  unfold State.place
  dsimp only
  split_ifs
  · trivial
  · exact s.vramIndex_lt ‹_›
  · trivial
  · exact s.wramIndex_lt ‹_›
  · exact s.wramIndex_lt (by omega)
  · show _ < 160; omega
  · trivial
  · split
    · exact ioRegAt_mappedIn ‹_›
    · trivial
  · show _ < 127; omega
  · trivial

/-! ## The memories' invariant -/

/-! The PPU renders with the palette memories and never writes them (62_ppu R507, R514). -/

theorem Ppu.writeLcdc_palettes (p : Ppu) (v : Byte) :
    (p.writeLcdc v).bgPal = p.bgPal ∧ (p.writeLcdc v).objPal = p.objPal := by
  unfold Ppu.writeLcdc
  split_ifs <;> exact ⟨rfl, rfl⟩

theorem Ppu.advanceDot_palettes (p : Ppu) : p.advanceDot.bgPal = p.bgPal ∧ p.advanceDot.objPal = p.objPal := by
  unfold Ppu.advanceDot
  split <;> exact ⟨rfl, rfl⟩

theorem State.enterMode_palettes (s : State) (m : PpuMode) :
    (s.enterMode m).ppu.bgPal = s.ppu.bgPal ∧ (s.enterMode m).ppu.objPal = s.ppu.objPal := by
  cases m with
  | hblank =>
    dsimp only [State.enterMode]
    split <;> exact ⟨rfl, rfl⟩
  | _ => exact ⟨rfl, rfl⟩

theorem State.evalStatLine_palettes (s : State) :
    s.evalStatLine.ppu.bgPal = s.ppu.bgPal ∧ s.evalStatLine.ppu.objPal = s.ppu.objPal := by
  simp [State.evalStatLine]

theorem State.ppuTick_palettes (s : State) : s.ppuTick.ppu.bgPal = s.ppu.bgPal ∧ s.ppuTick.ppu.objPal = s.ppu.objPal := by
  have hdot := Ppu.advanceDot_palettes { s.ppu with hblankEntered := false }
  unfold State.ppuTick
  dsimp only
  split
  · exact ⟨rfl, rfl⟩
  · simp only [State.evalStatLine_palettes]
    split
    · exact hdot
    · simp only [State.enterMode_palettes]
      exact hdot

/-- A write below the size keeps a memory canonical and within its size. -/
theorem Memory.write_wf_within {m : Memory} {n k : Nat} (h : m.wf ∧ Memory.within m n) (hk : k < n) (v : Byte) :
    (Memory.write m k v).wf ∧ Memory.within (Memory.write m k v) n :=
  ⟨Memory.write_wf h.1 k v, Memory.write_within h.2 hk v⟩

/-- The invariant that a step keeps at each of its parts: the memories are as they should be, and in DMG mode no HDMA
transfer is active, so that VRAM beyond the one bank of that mode is never written (20_memory R83, 63_io_devices R582). -/
structure State.Contained (s : State) : Prop where
  memories : s.MemoriesOk
  dmgHdma : s.cfg.hwMode = .dmg → s.hdma.active = false

namespace State.Contained
variable {s : State}

/-- The invariant speaks of the memories, the configuration and the active bit of HDMA alone. -/
theorem frame (h : s.Contained) {cpu : Cpu} {irq : Irq} {timer : Timer} {ppu : Ppu} {joypad : Joypad} {serial : Serial}
    {hdma : Hdma} {cart : Cart} {vbk : BitVec 1} {svbk : BitVec 3} {dmaReg : Byte} {host : HostSide}
    (hbg : ppu.bgPal = s.ppu.bgPal) (hobj : ppu.objPal = s.ppu.objPal) (hram : cart.ram = s.cart.ram)
    (hquiet : s.cfg.hwMode = .dmg → hdma.active = false) :
    State.Contained { s with
      cpu := cpu, irq := irq, timer := timer, ppu := ppu, joypad := joypad, serial := serial, hdma := hdma
      cart := cart, vbk := vbk, svbk := svbk, dmaReg := dmaReg, host := host } := by
  obtain ⟨⟨hv, hw, ho, hh, ha, hb, hp, hc⟩, -⟩ := h
  exact ⟨⟨hv, hw, ho, hh, ha, hbg ▸ hb, hobj ▸ hp, hram ▸ hc⟩, hquiet⟩

theorem writeVram (h : s.Contained) {k : Nat} (hk : k < Config.vramSize s.cfg) (v : Byte) :
    State.Contained { s with vram := Memory.write s.vram k v } :=
  ⟨{ h.memories with vram := Memory.write_wf_within h.memories.vram hk v }, h.dmgHdma⟩

theorem writeWram (h : s.Contained) {k : Nat} (hk : k < Config.wramSize s.cfg) (v : Byte) :
    State.Contained { s with wram := Memory.write s.wram k v } :=
  ⟨{ h.memories with wram := Memory.write_wf_within h.memories.wram hk v }, h.dmgHdma⟩

theorem writeOam (h : s.Contained) {k : Nat} (hk : k < 160) (v : Byte) :
    State.Contained { s with oam := Memory.write s.oam k v } :=
  ⟨{ h.memories with oam := Memory.write_wf_within h.memories.oam hk v }, h.dmgHdma⟩

theorem writeHram (h : s.Contained) {k : Nat} (hk : k < 127) (v : Byte) :
    State.Contained { s with hram := Memory.write s.hram k v } :=
  ⟨{ h.memories with hram := Memory.write_wf_within h.memories.hram hk v }, h.dmgHdma⟩

theorem writeApu (h : s.Contained) {k : Nat} (hk : k < 0xFF40) (v : Byte) :
    State.Contained { s with apu := Memory.write s.apu k v } :=
  ⟨{ h.memories with apu := Memory.write_wf_within h.memories.apu hk v }, h.dmgHdma⟩

/-- A palette index has six bits, so it is one of the palette memory (62_ppu R507). -/
theorem writeBgPal (h : s.Contained) (i : BitVec 6) (v : Byte) :
    State.Contained { s with ppu.bgPal := Memory.write s.ppu.bgPal i.toNat v } :=
  ⟨{ h.memories with bgPal := Memory.write_wf_within h.memories.bgPal i.isLt v }, h.dmgHdma⟩

theorem writeObjPal (h : s.Contained) (i : BitVec 6) (v : Byte) :
    State.Contained { s with ppu.objPal := Memory.write s.ppu.objPal i.toNat v } :=
  ⟨{ h.memories with objPal := Memory.write_wf_within h.memories.objPal i.isLt v }, h.dmgHdma⟩

theorem cartRamWrite (h : s.Contained) (a : Nat) (v : Byte) : (s.cartRamWrite a v).Contained := by
  unfold State.cartRamWrite
  split
  · exact h
  · rename_i k hk
    have hw : State.Contained { s with cart.ram := Memory.write s.cart.ram k (s.cartRamStored v) } :=
      ⟨{ h.memories with cartRam := Memory.write_wf_within h.memories.cartRam (State.cartRamIndex_lt hk) _ }, h.dmgHdma⟩
    dsimp only
    split
    · exact hw.frame rfl rfl rfl h.dmgHdma
    · exact hw

/-- The control writes of the bank controllers store nothing in cartridge RAM (20_memory R82). -/
theorem cartControl (h : s.Contained) (a : Nat) (v : Byte) : (s.cartControl a v).Contained := by
  unfold State.cartControl
  split
  · exact h
  · exact h.frame rfl rfl (by unfold Cart.controlMbc1; split_ifs <;> rfl) h.dmgHdma
  · exact h.frame rfl rfl (by unfold Cart.controlMbc2; split_ifs <;> rfl) h.dmgHdma
  · exact h.frame rfl rfl (by unfold Cart.controlMbc3; split_ifs <;> rfl) h.dmgHdma
  · exact h.frame rfl rfl (by unfold Cart.controlMbc5; split_ifs <;> rfl) h.dmgHdma

/-! The DMA engines. -/

theorem oamCopy (h : s.Contained) (src : Word) {n : Nat} (hn : n ≤ 160) : (s.oamCopy src n).Contained := by
  induction n with
  | zero => exact h
  | succ n ih => exact (ih (Nat.le_of_succ_le hn)).writeOam hn _

/-- In CGB mode the HDMA destination and the bank VBK selects stay within the two banks of VRAM (63_io_devices R577). -/
theorem hdmaByte (h : s.Contained) (hm : s.cfg.hwMode = .cgb) : s.hdmaByte.Contained := by
  have hk : s.vbk.toNat * 0x2000 + s.hdma.dst.toNat < Config.vramSize s.cfg := by
    have hv := s.vbk.isLt
    have hd := s.hdma.dst.isLt
    simp only [Config.vramSize, hm]
    omega
  exact (h.writeVram hk _).frame rfl rfl rfl h.dmgHdma

theorem hdmaBytes (h : s.Contained) (hm : s.cfg.hwMode = .cgb) (n : Nat) : (s.hdmaBytes n).Contained := by
  induction n with
  | zero => exact h
  | succ n ih => exact ih.hdmaByte (by rw [State.hdmaBytes_changes]; exact hm)

theorem copyBlocks (h : s.Contained) (hm : s.cfg.hwMode = .cgb) (n : Nat) : (s.copyBlocks n).Contained := by
  induction n with
  | zero => exact h
  | succ n ih => exact ih.hdmaBytes (by rw [State.copyBlocks_changes]; exact hm) 16

theorem hdma5Write (h : s.Contained) (hm : s.cfg.hwMode = .cgb) (v : Byte) : (s.hdma5Write v).Contained := by
  unfold State.hdma5Write
  split_ifs
  · exact h.frame rfl rfl rfl fun hd => absurd (hm.symm.trans hd) nofun
  · exact h.frame rfl rfl rfl fun _ => rfl
  · have hb := h.copyBlocks hm ((v.extractLsb' 0 7).toNat + 1)
    exact hb.frame rfl rfl rfl hb.dmgHdma

theorem hdmaTick (h : s.Contained) : s.hdmaTick.Contained := by
  unfold State.hdmaTick
  split
  · rename_i hact
    simp only [Bool.and_eq_true] at hact
    have hm : s.cfg.hwMode = .cgb := by
      cases hd : s.cfg.hwMode with
      | cgb => rfl
      | dmg => exact absurd (hact.1.symm.trans (h.dmgHdma hd)) nofun
    have hb : s.copyBlock.Contained := h.hdmaBytes hm 16
    dsimp only
    split
    · exact hb.frame rfl rfl rfl fun _ => rfl
    · exact hb.frame rfl rfl rfl hb.dmgHdma
  · exact h

/-! A CPU write. -/

theorem ioWrite (h : s.Contained) {r : IoReg} (hr : r.mappedIn s.cfg.hwMode) (v : Byte) : (s.ioWrite r v).Contained := by
  cases r with
  | p1 =>
    show (s.p1Write v).Contained
    rw [State.p1Write, State.evalJoypad_changes]
    exact h.frame rfl rfl rfl h.dmgHdma
  | apu k => exact h.writeApu (Nat.add_lt_add_left hr 0xFF00) v
  | lcdc =>
    obtain ⟨hbg, hobj⟩ := s.ppu.writeLcdc_palettes v
    exact h.frame hbg hobj rfl h.dmgHdma
  | dma => exact State.Contained.oamCopy (s := { s with dmaReg := v }) (h.frame rfl rfl rfl h.dmgHdma) _ le_rfl
  | hdma5 => exact h.hdma5Write hr v
  | bcpd => exact (h.writeBgPal _ v).frame rfl rfl rfl h.dmgHdma
  | ocpd => exact (h.writeObjPal _ v).frame rfl rfl rfl h.dmgHdma
  | ly | bootRom => exact h
  | _ => exact h.frame rfl rfl rfl h.dmgHdma

theorem writePlace (h : s.Contained) {p : Place} (hp : p.inRange s.cfg) (v : Byte) : (s.writePlace p v).Contained := by
  cases p with
  | rom a => exact h.cartControl a v
  | cartRam a => exact h.cartRamWrite a v
  | vram k =>
    dsimp only [State.writePlace]
    split
    exacts [h, h.writeVram hp v]
  | oam k =>
    dsimp only [State.writePlace]
    split
    exacts [h, h.writeOam hp v]
  | wram k => exact h.writeWram hp v
  | hram k => exact h.writeHram hp v
  | io r => exact h.ioWrite hp v
  | ie => exact h.frame rfl rfl rfl h.dmgHdma
  | unusable | unmapped => exact h

theorem busWrite (h : s.Contained) (a : Word) (v : Byte) : (s.busWrite a v).Contained :=
  h.writePlace (s.place_inRange a) v

theorem moves {t : State} (h : s.Contained) (hst : s.Moves t) : t.Contained := by
  induction hst with
  | refl => exact h
  | registers _ _ ih => exact ih.frame rfl rfl rfl ih.dmgHdma
  | write _ a v ih => exact ih.busWrite a v

/-! A CPU step. -/

theorem effect {i : Instr} {t : State} (h : s.Contained) (hst : s.Effect i t) : t.Contained := by
  cases hst with
  | ordinary ho => exact h.moves ho.moves
  | stop =>
    unfold State.stopOp
    split <;> exact h.frame rfl rfl rfl h.dmgHdma
  | halt =>
    unfold State.haltOp
    split_ifs <;> exact h.frame rfl rfl rfl h.dmgHdma
  | _ => exact h.frame rfl rfl rfl h.dmgHdma

theorem cpuStep {t : State} (h : s.Contained) (hst : s.cpuStep = .next t) : t.Contained := by
  obtain ⟨p, rfl⟩ | ⟨k, -, rfl⟩ | ⟨-, -, hi⟩ := State.cpuStep_next hst
  · unfold State.wakeIf
    split <;> exact h.frame rfl rfl rfl h.dmgHdma
  · obtain ⟨u, hu, hd⟩ := s.dispatch_moves k
    have hcu : u.Contained := State.Contained.moves (h.frame rfl rfl rfl h.dmgHdma) hu
    rw [hd]
    exact hcu.frame rfl rfl rfl hcu.dmgHdma
  · obtain ⟨i, rest, u, -, heff, rfl⟩ := State.instructionStep_next hi
    have hcu : u.Contained := State.Contained.effect (h.frame rfl rfl rfl h.dmgHdma) heff
    rw [State.finishEi_changes]
    exact hcu.frame rfl rfl rfl hcu.dmgHdma

/-! The host's move and the devices. -/

theorem takeHostInput (h : s.Contained) : s.takeHostInput.Contained := by
  rw [State.takeHostInput_changes]
  exact h.frame rfl rfl rfl h.dmgHdma

theorem timerTick (h : s.Contained) : s.timerTick.Contained := by
  rw [State.timerTick_changes]
  exact h.frame rfl rfl rfl h.dmgHdma

theorem serialTick (h : s.Contained) : s.serialTick.Contained := by
  rw [State.serialTick_changes]
  exact h.frame rfl rfl rfl h.dmgHdma

theorem ppuTick (h : s.Contained) : s.ppuTick.Contained := by
  obtain ⟨hbg, hobj⟩ := s.ppuTick_palettes
  rw [State.ppuTick_changes]
  exact h.frame hbg hobj rfl h.dmgHdma

theorem runDevices (h : s.Contained) : s.runDevices.Contained :=
  State.deviceCycles_keep (fun _ hs => hs.timerTick.ppuTick.serialTick.hdmaTick) h _

end State.Contained

/-- Settles O43: each part of a step keeps `State.Contained`, which is the memories' invariant with as much of `DmgQuiet` as
keeps HDMA from writing VRAM in DMG mode. -/
theorem memoriesInvariantKept : Obligations.memoriesInvariantKept := by
  intro s t hs hq h
  obtain ⟨u, hu, rfl⟩ := step_next h
  have hin : s.Contained := ⟨hs, fun hm => by
    obtain ⟨-, -, -, -, -, -, hhdma⟩ := hq hm
    rw [hhdma]⟩
  exact (hin.takeHostInput.cpuStep hu).runDevices.memories

end Sys2Proof.Machine

namespace Sys2Proof.Machine

/-! ## The address decoder, range by range -/

section
variable (s : State) {a : Word}

theorem State.place_vram (hl : 0x8000 ≤ a.toNat) (hu : a.toNat < 0xA000) : s.place a = .vram (s.vramIndex a.toNat) := by
  simp (disch := omega) only [State.place, if_neg, if_pos]

theorem State.place_cartRam (hl : 0xA000 ≤ a.toNat) (hu : a.toNat < 0xC000) : s.place a = .cartRam a.toNat := by
  simp (disch := omega) only [State.place, if_neg, if_pos]

theorem State.place_wram (hl : 0xC000 ≤ a.toNat) (hu : a.toNat < 0xE000) : s.place a = .wram (s.wramIndex a.toNat) := by
  simp (disch := omega) only [State.place, if_neg, if_pos]

/-- An echo address leads to the WRAM place of the address 0x2000 lower (20_memory R88). -/
theorem State.place_echo (hl : 0xE000 ≤ a.toNat) (hu : a.toNat < 0xFE00) : s.place a = s.place (a - 0x2000#16) := by
  have hsub : (a - 0x2000#16).toNat = a.toNat - 0x2000 := by bv_omega
  simp (disch := omega) only [State.place, hsub, if_neg, if_pos]

theorem State.place_oam (hl : 0xFE00 ≤ a.toNat) (hu : a.toNat < 0xFEA0) : s.place a = .oam (a.toNat - 0xFE00) := by
  simp (disch := omega) only [State.place, if_neg, if_pos]

theorem State.place_unusable (hl : 0xFEA0 ≤ a.toNat) (hu : a.toNat < 0xFF00) : s.place a = .unusable := by
  simp (disch := omega) only [State.place, if_neg, if_pos]

/-- All of WRAM stores (20_memory R86). -/
theorem State.stores_wram (hl : 0xC000 ≤ a.toNat) (hu : a.toNat < 0xE000) : s.stores (s.place a) = true := by
  rw [s.place_wram hl hu]
  rfl

/-- The echo of WRAM stores (20_memory R88). -/
theorem State.stores_echo (hl : 0xE000 ≤ a.toNat) (hu : a.toNat < 0xFE00) : s.stores (s.place a) = true := by
  have hsub : (a - 0x2000#16).toNat = a.toNat - 0x2000 := by bv_omega
  rw [s.place_echo hl hu]
  exact s.stores_wram (by omega) (by omega)

/-- The top of the address space is HRAM and IE, which store (20_memory R92, R93). -/
theorem State.stores_top (hl : 0xFF80 ≤ a.toNat) : s.stores (s.place a) = true := by
  simp (disch := omega) only [State.place, if_neg]
  split <;> rfl

end

/-! ## What a place answers and takes -/

/-- A place that stores has no effect beyond the byte. -/
theorem State.plain_of_stores {s : State} {p : Place} (h : s.stores p = true) : p.plain = true := by
  cases p with
  | rom | cartRam | io => cases h
  | _ => rfl

/-- Two addresses of one place are read and written alike. -/
theorem State.busRead_congr (s : State) {a b : Word} (h : s.place a = s.place b) : s.busRead a = s.busRead b :=
  congrArg (s.readPlace true) h

theorem State.busWrite_congr (s : State) {a b : Word} (h : s.place a = s.place b) (v : Byte) :
    s.busWrite a v = s.busWrite b v :=
  congrArg (s.writePlace · v) h

/-- An address without a device reads 0xFF and takes no write (20_memory R90, R94). -/
theorem State.bus_of_absent (s : State) {a : Word} (v : Byte) (h : s.place a = .unusable ∨ s.place a = .unmapped) :
    s.busRead a = 0xFF#8 ∧ s.busWrite a v = s := by
  unfold State.busRead State.busWrite
  rcases h with h | h <;> rw [h] <;> exact ⟨rfl, rfl⟩

/-- VRAM that is locked reads 0xFF and takes no write; else it stores (20_memory R95). -/
theorem State.bus_of_vramLocked {s : State} {a : Word} {k : Nat} (v : Byte) (ha : s.place a = .vram k)
    (hl : s.vramLocked = true) : s.busRead a = 0xFF#8 ∧ s.busWrite a v = s := by
  simp [State.busRead, State.busWrite, State.readPlace, State.writePlace, ha, hl]

theorem State.bus_of_oamLocked {s : State} {a : Word} {k : Nat} (v : Byte) (ha : s.place a = .oam k)
    (hl : s.oamLocked = true) : s.busRead a = 0xFF#8 ∧ s.busWrite a v = s := by
  simp [State.busRead, State.busWrite, State.readPlace, State.writePlace, ha, hl]

/-! ## The PPU lock -/

/-- Mode 3 begins at dot 80 of a visible line and lasts `mode3Len` dots (62_ppu R513). -/
theorem Ppu.mode_eq_transfer_iff (p : Ppu) (n : Nat) :
    p.mode n = .transfer ↔ (p.lcdOn = true ∧ p.ly < 144) ∧ 80 ≤ p.dot ∧ p.dot < 80 + n := by
  unfold Ppu.mode
  split_ifs <;> simp_all

/-- Mode 2 is the first 80 dots of a visible line (62_ppu R513). -/
theorem Ppu.mode_eq_oamScan_iff (p : Ppu) (n : Nat) :
    p.mode n = .oamScan ↔ (p.lcdOn = true ∧ p.ly < 144) ∧ p.dot < 80 := by
  unfold Ppu.mode
  split_ifs <;> simp_all

/-- VRAM is locked in mode 3 (20_memory R95). -/
theorem State.vramLocked_iff (s : State) :
    s.vramLocked = true ↔
      (s.ppu.lcdc.getLsbD 7 = true ∧ s.ppu.ly < 144) ∧ 80 ≤ s.ppu.dot ∧ s.ppu.dot < 80 + s.cfg.mode3Len := by
  simp only [State.vramLocked, State.ppuMode, Bool.and_eq_true, decide_eq_true_eq, Ppu.mode_eq_transfer_iff,
    Ppu.lcdOn]
  tauto

/-- OAM is locked in modes 2 and 3, which follow each other (20_memory R95). -/
theorem State.oamLocked_iff (s : State) :
    s.oamLocked = true ↔ (s.ppu.lcdc.getLsbD 7 = true ∧ s.ppu.ly < 144) ∧ s.ppu.dot < 80 + s.cfg.mode3Len := by
  simp only [State.oamLocked, State.ppuMode, Bool.and_eq_true, Bool.or_eq_true, decide_eq_true_eq,
    Ppu.mode_eq_transfer_iff, Ppu.mode_eq_oamScan_iff, Ppu.lcdOn, ← and_or_left]
  have hdots : s.ppu.dot < 80 ∨ 80 ≤ s.ppu.dot ∧ s.ppu.dot < 80 + s.cfg.mode3Len ↔ s.ppu.dot < 80 + s.cfg.mode3Len := by
    omega
  rw [hdots]
  tauto

/-- Settles O50: the lock by the position, and what a locked and an unlocked place do with a read and a write. -/
theorem ppuLocksVideoMemory : Obligations.ppuLocksVideoMemory := by
  rintro s a v visible rfl
  refine ⟨fun hl hu => ?vram, fun hl hu => ?oam⟩
  case vram =>
    have ha := s.place_vram hl hu
    rw [← s.vramLocked_iff]
    exact ⟨State.bus_of_vramLocked v ha, fun hn => s.busRead_busWrite_same v (by simpa [ha, State.stores] using hn)⟩
  case oam =>
    have ha := s.place_oam hl hu
    rw [← s.oamLocked_iff]
    exact ⟨State.bus_of_oamLocked v ha, fun hn => s.busRead_busWrite_same v (by simpa [ha, State.stores] using hn)⟩

/-! ## Cartridge RAM -/

/-- Where no cell is selected a read gives 0xFF and a write changes nothing (21_cartridge R143). -/
theorem State.cartRam_of_none {s : State} {a : Nat} (h : s.cartRamIndex a = none) (v : Byte) :
    s.cartRamRead a = 0xFF#8 ∧ s.cartRamWrite a v = s := by
  simp [State.cartRamRead, State.cartRamWrite, h]

/-- A read of the selected cell; MBC2's cells have four bits (21_cartridge R143, R149). -/
theorem State.cartRamRead_of_some {s : State} {a k : Nat} (h : s.cartRamIndex a = some k) :
    s.cartRamRead a =
      if s.cfg.cart.variant = .mbc2 then 0xF0#8 ||| Memory.read s.cart.ram k else Memory.read s.cart.ram k := by
  simp only [State.cartRamRead, h]
  cases s.cfg.cart.variant <;> rfl

/-- The low four bits of a byte, as a number. -/
theorem and_lowNibble_eq_mod (v : Byte) : v &&& 0x0F#8 = BitVec.ofNat 8 (v.toNat % 16) := by
  have hmod : v.toNat &&& 15 = v.toNat % 16 := Nat.and_two_pow_sub_one_eq_mod v.toNat 4
  apply BitVec.eq_of_toNat_eq
  rw [BitVec.toNat_and, BitVec.toNat_ofNat, BitVec.toNat_ofNat]
  exact hmod.trans (by omega)

/-- What a write stores: MBC2 keeps the low four bits (21_cartridge R149). -/
theorem State.cartRamStored_eq (s : State) (v : Byte) :
    s.cartRamStored v = if s.cfg.cart.variant = .mbc2 then BitVec.ofNat 8 (v.toNat % 16) else v := by
  unfold State.cartRamStored
  cases s.cfg.cart.variant with
  | mbc2 => exact and_lowNibble_eq_mod v
  | _ => rfl

/-- A write of the selected cell stores there, changes nothing else but what is reported to the host, and reports a changed
cell exactly where there is a battery (21_cartridge R143, R154). -/
theorem State.cartRamWrite_of_some {s : State} {a k : Nat} (h : s.cartRamIndex a = some k) (v : Byte) :
    s.cartRamWrite a v = { s with
      cart.ram := Memory.write s.cart.ram k (s.cartRamStored v)
      host.ramReports :=
        if s.cfg.cart.battery = true ∧ Memory.read s.cart.ram k ≠ s.cartRamStored v then
          (k, s.cartRamStored v) :: s.host.ramReports
        else s.host.ramReports } := by
  simp only [State.cartRamWrite, h]
  split <;> rfl

/-- The window 0xA000-0xBFFF is that of cartridge RAM (20_memory R81). -/
theorem State.busRead_cartRam (s : State) {a : Word} (hl : 0xA000 ≤ a.toNat) (hu : a.toNat < 0xC000) :
    s.busRead a = s.cartRamRead a.toNat := by
  rw [State.busRead, s.place_cartRam hl hu]
  rfl

theorem State.busWrite_cartRam (s : State) {a : Word} (hl : 0xA000 ≤ a.toNat) (hu : a.toNat < 0xC000) (v : Byte) :
    s.busWrite a v = s.cartRamWrite a.toNat v := by
  rw [State.busWrite, s.place_cartRam hl hu]
  rfl

/-- Settles O49: the places of the address ranges, and the cell of cartridge RAM variant by variant; only MBC3 selects
registers that are no RAM bank (21_cartridge R151). -/
theorem busStoresAndEcho : Obligations.busStoresAndEcho := by
  refine ⟨fun s a v => ⟨fun hs => ?stored, fun hl hu => ?echo, s.stores_wram, s.stores_top, fun hl hu => ?unusable,
    fun ha => s.bus_of_absent v (.inr ha)⟩, ?cartRam⟩
  case stored => exact ⟨s.busRead_busWrite_same v hs, fun b => s.busRead_busWrite_other v (State.plain_of_stores hs)⟩
  case echo =>
    have ha := s.place_echo hl hu
    exact ⟨s.busRead_congr ha, s.busWrite_congr ha v, s.stores_echo hl hu⟩
  case unusable => exact s.bus_of_absent v (.inl (s.place_unusable hl hu))
  case cartRam =>
    intro s t a v w bank cell hl hu ht hw hbank hcell
    have hidx : s.cartRamIndex a.toNat = cell := by
      subst hcell hbank
      cases hv : s.cfg.cart.variant with
      | mbc3 =>
        simp only [State.cartRamIndex, State.ramBankSelected, State.ramAccessible, State.ramIndex, hv]
        by_cases hb : s.cart.ramBank.toNat ≤ 3 <;> simp [hb]
      | _ => simp [State.cartRamIndex, State.ramBankSelected, State.ramAccessible, State.ramIndex, hv]
    rw [s.busRead_cartRam hl hu, ht, s.busWrite_cartRam hl hu, ← hidx]
    refine ⟨fun hn => State.cartRam_of_none hn v, fun k hk => ?_⟩
    rw [State.cartRamWrite_of_some hk, State.cartRamRead_of_some hk, s.cartRamStored_eq, ← hw]
    exact ⟨rfl, Memory.read_write_same _ _ _, fun j hj => Memory.read_write_other _ _ hj, rfl,
      fun hb hne => if_pos ⟨hb, hne⟩, fun hb => if_neg fun hc => absurd (hb.symm.trans hc.1) Bool.false_ne_true⟩

end Sys2Proof.Machine

namespace Sys2Proof.Machine

/-! ## Invariants that the parts of a step keep -/

/-- `p` is kept by each part of a step: by the host's move and the CPU's own updates, which in DMG mode leave the speed bits
alone; by a bus write; and by a device cycle. -/
structure State.KeptByParts (p : State → Prop) : Prop where
  update : ∀ {cpu : Cpu} {irq : Irq} {timer : Timer} {joypad : Joypad} {host : HostSide} (s : State), p s →
    (s.cfg.hwMode = .dmg → cpu.sameSpeed s.cpu) →
    p { s with cpu := cpu, irq := irq, timer := timer, joypad := joypad, host := host }
  write : ∀ {s : State} (a : Word) (v : Byte), p s → p (s.busWrite a v)
  devices : ∀ {s : State}, p s → p s.deviceCycle

namespace State.KeptByParts
variable {p : State → Prop} {s t : State}

theorem moves (k : State.KeptByParts p) (hst : s.Moves t) (hs : p s) : p t := by
  induction hst with
  | refl => exact hs
  | registers _ hu ih => exact k.update _ ih fun _ => ⟨hu.doubleSpeed, hu.speedPrepare⟩
  | write _ a v ih => exact k.write a v ih

/-- Of the instructions only a STOP of CGB mode writes the speed bits (47_system R413). -/
theorem effect (k : State.KeptByParts p) {i : Instr} (hst : s.Effect i t) (hs : p s) : p t := by
  cases hst with
  | ordinary h => exact k.moves h.moves hs
  | stop =>
    unfold State.stopOp
    split
    · rename_i hcgb
      exact k.update s hs fun hm => absurd (hm.symm.trans hcgb.1) nofun
    · exact k.update s hs fun _ => ⟨rfl, rfl⟩
  | halt =>
    unfold State.haltOp
    split_ifs <;> exact k.update s hs fun _ => ⟨rfl, rfl⟩
  | _ => exact k.update s hs fun _ => ⟨rfl, rfl⟩

theorem cpuStep (k : State.KeptByParts p) (h : s.cpuStep = .next t) (hs : p s) : p t := by
  obtain ⟨w, rfl⟩ | ⟨irq, -, rfl⟩ | ⟨-, -, hi⟩ := State.cpuStep_next h
  · unfold State.wakeIf
    split <;> exact k.update s hs fun _ => ⟨rfl, rfl⟩
  · obtain ⟨u, hu, hd⟩ := s.dispatch_moves irq
    have hpu : p u := k.moves hu (k.update s hs fun _ => ⟨rfl, rfl⟩)
    rw [hd]
    exact k.update u hpu fun _ => ⟨rfl, rfl⟩
  · obtain ⟨i, rest, u, -, heff, rfl⟩ := State.instructionStep_next hi
    have hpu : p u := k.effect heff (k.update s hs fun _ => ⟨rfl, rfl⟩)
    rw [State.finishEi_changes]
    exact k.update u hpu fun _ => ⟨rfl, rfl⟩

/-- What each part keeps, the whole step keeps. -/
theorem step (k : State.KeptByParts p) (h : step s = .next t) (hs : p s) : p t := by
  obtain ⟨u, hu, rfl⟩ := step_next h
  have hin : p s.takeHostInput := by
    rw [State.takeHostInput_changes]
    exact k.update s hs fun _ => ⟨rfl, rfl⟩
  exact State.deviceCycles_keep (p := p) (fun _ => k.devices) (k.cpuStep hu hin) u.deviceCount

end State.KeptByParts

/-! ## The bank registers -/

/-- A byte masked with its low `k` bits, as a number. -/
theorem and_lowBits_toNat {m : Byte} {k : Nat} (hm : m.toNat = 2 ^ k - 1) (v : Byte) : (v &&& m).toNat = v.toNat % 2 ^ k := by
  rw [BitVec.toNat_and, hm, Nat.and_two_pow_sub_one_eq_mod]

/-- The bank that a control write of `k` bits selects, with 0 replaced by 1 (21_cartridge R145, R148, R150). -/
theorem zeroToOne_masked_toNat {m : Byte} {k : Nat} (hm : m.toNat = 2 ^ k - 1) (v : Byte) :
    (zeroToOne ((v &&& m).setWidth 9)).toNat = if v.toNat % 2 ^ k = 0 then 1 else v.toNat % 2 ^ k := by
  have hbank : ((v &&& m).setWidth 9).toNat = v.toNat % 2 ^ k := by
    rw [BitVec.toNat_setWidth_of_le (by decide), and_lowBits_toNat hm]
  rw [← hbank]
  generalize (v &&& m).setWidth 9 = b
  unfold zeroToOne
  split_ifs <;> simp_all [BitVec.toNat_eq]

/-- The selected bank stays within its `k` bits and is never 0. -/
theorem zeroToOne_masked_ok {m : Byte} {k : Nat} (hm : m.toNat = 2 ^ k - 1) (hk : 0 < k) (v : Byte) :
    (zeroToOne ((v &&& m).setWidth 9)).toNat < 2 ^ k ∧ zeroToOne ((v &&& m).setWidth 9) ≠ 0#9 := by
  have hone : 1 < 2 ^ k := Nat.one_lt_two_pow hk.ne'
  have hmod : v.toNat % 2 ^ k < 2 ^ k := Nat.mod_lt _ (by omega)
  rw [ne_eq, BitVec.toNat_eq, zeroToOne_masked_toNat hm]
  split_ifs with h0
  · exact ⟨hone, by decide⟩
  · exact ⟨hmod, h0⟩

theorem Memory.mem_write {m : Memory} {k : Nat} {v : Byte} {c : Host.Cell} (h : c ∈ Memory.write m k v) :
    c = (k, v) ∨ c ∈ m := by
  unfold Memory.write at h
  split at h
  · exact .inr (List.mem_of_mem_filter h)
  · exact (Memory.mem_insert h).imp id List.mem_of_mem_filter

namespace State.CartOk
variable {s : State}

/-- The invariant speaks of the cartridge and the configuration alone. -/
theorem of_same {t : State} (h : s.CartOk) (hcart : t.cart = s.cart) (hcfg : t.cfg = s.cfg) : t.CartOk := by
  unfold State.CartOk
  rw [hcart, hcfg]
  exact h

/-- A control write keeps the widths of the bank registers and the replacement of bank 0 (21_cartridge R145, R148, R150,
R152). -/
theorem cartControl (h : s.CartOk) (a : Nat) (v : Byte) : (s.cartControl a v).CartOk := by
  unfold State.cartControl
  unfold State.CartOk at h ⊢
  cases hv : s.cfg.cart.variant <;> simp only [hv] at h ⊢
  case mbc1 =>
    obtain ⟨hbank, hzero, hram⟩ := h
    unfold Cart.controlMbc1
    split_ifs
    · exact ⟨hbank, hzero, hram⟩
    · obtain ⟨hlt, hne⟩ := zeroToOne_masked_ok (m := 0x1F#8) (k := 5) rfl (by decide) v
      exact ⟨hlt, hne, hram⟩
    · exact ⟨hbank, hzero, (and_lowBits_toNat (k := 2) rfl v).trans_lt (Nat.mod_lt _ (by decide))⟩
    · exact ⟨hbank, hzero, hram⟩
  case mbc2 =>
    obtain ⟨hbank, hzero, hcells⟩ := h
    unfold Cart.controlMbc2
    split_ifs
    · obtain ⟨hlt, hne⟩ := zeroToOne_masked_ok (m := 0x0F#8) (k := 4) rfl (by decide) v
      exact ⟨hlt, hne, hcells⟩
    · exact ⟨hbank, hzero, hcells⟩
    · exact ⟨hbank, hzero, hcells⟩
  case mbc3 =>
    unfold Cart.controlMbc3
    split_ifs
    · exact h
    · exact zeroToOne_masked_ok (m := 0x7F#8) (k := 7) rfl (by decide) v
    · exact h
    · exact h
  case mbc5 =>
    unfold Cart.controlMbc5
    split_ifs
    · exact h
    · exact h
    · exact h
    · exact (and_lowBits_toNat (k := 4) rfl v).trans_lt (Nat.mod_lt _ (by decide))
    · exact h

/-- A write of cartridge RAM leaves the bank registers alone, and MBC2 stores four bits (21_cartridge R149). -/
theorem cartRamWrite (h : s.CartOk) (a : Nat) (v : Byte) : (s.cartRamWrite a v).CartOk := by
  cases hidx : s.cartRamIndex a with
  | none => exact (State.cartRam_of_none hidx v).2.symm ▸ h
  | some k =>
    rw [State.cartRamWrite_of_some hidx]
    unfold State.CartOk at h ⊢
    cases hv : s.cfg.cart.variant <;> simp only [hv] at h ⊢
    case mbc2 =>
      obtain ⟨hbank, hzero, hcells⟩ := h
      refine ⟨hbank, hzero, fun c hc => ?_⟩
      rcases Memory.mem_write hc with rfl | hold
      · simp only [State.cartRamStored, hv]
        exact (and_lowBits_toNat (k := 4) rfl v).trans_lt (Nat.mod_lt _ (by decide))
      · exact hcells c hold
    all_goals exact h

theorem writePlace (h : s.CartOk) (p : Place) (v : Byte) : (s.writePlace p v).CartOk := by
  cases p with
  | rom a => exact h.cartControl a v
  | cartRam a => exact h.cartRamWrite a v
  | vram k | oam k => dsimp only [State.writePlace]; split <;> exact h
  | io r =>
    cases r with
    | p1 => dsimp only [State.writePlace, State.ioWrite, State.p1Write]; rw [State.evalJoypad_changes]; exact h
    | dma => dsimp only [State.writePlace, State.ioWrite, State.oamDma]; rw [State.oamCopy_changes]; exact h.of_same rfl rfl
    | hdma5 => dsimp only [State.writePlace, State.ioWrite]; rw [State.hdma5Write_changes]; exact h.of_same rfl rfl
    | _ => exact h
  | _ => exact h

theorem deviceCycle (h : s.CartOk) : s.deviceCycle.CartOk := by
  unfold State.deviceCycle
  rw [State.hdmaTick_changes, State.serialTick_changes, State.ppuTick_changes, State.timerTick_changes]
  exact h

/-- The bank registers change in bus writes alone. -/
theorem keptByParts : State.KeptByParts State.CartOk where
  update _ h _ := h
  write _ v h := h.writePlace _ v
  devices h := h.deviceCycle

end State.CartOk

/-! ## The registers of CGB mode in DMG mode -/

/-- What CGB mode adds to the registers, with the palette memories (63_io_devices R582). -/
structure CgbPart where
  doubleSpeed : Bool
  speedPrepare : Bool
  vbk : BitVec 1
  svbk : BitVec 3
  bcps : PaletteIndex
  bgPal : Memory
  ocps : PaletteIndex
  objPal : Memory
  hdma : Hdma

/-- The CGB part of a state. -/
def State.cgbPart (s : State) : CgbPart :=
  { doubleSpeed := s.cpu.doubleSpeed, speedPrepare := s.cpu.speedPrepare, vbk := s.vbk, svbk := s.svbk, bcps := s.ppu.bcps
    bgPal := s.ppu.bgPal, ocps := s.ppu.ocps, objPal := s.ppu.objPal, hdma := s.hdma }

/-- The registers of a CGB part hold their reset values (70_reset_and_hazards R614). -/
def CgbPart.atReset (c : CgbPart) : Prop :=
  c.doubleSpeed = false ∧ c.speedPrepare = false ∧ c.vbk = 0#1 ∧ c.svbk = 0#3 ∧
    c.bcps = { autoInc := false, index := 0 } ∧ c.ocps = { autoInc := false, index := 0 } ∧
    c.hdma = { src := 0, dst := 0, len := 0x7F, active := false }

theorem State.dmgQuiet_iff (s : State) : s.DmgQuiet ↔ (s.cfg.hwMode = .dmg → s.cgbPart.atReset) := Iff.rfl

/-- A place of DMG mode is no register of CGB mode, so its write leaves the CGB part alone (63_io_devices R582). -/
theorem State.writePlace_cgbPart {s : State} (hm : s.cfg.hwMode = .dmg) {p : Place} (hp : p.inRange s.cfg) (v : Byte) :
    (s.writePlace p v).cgbPart = s.cgbPart := by
  cases p with
  | rom a => dsimp only [State.writePlace, State.cartControl]; split <;> rfl
  | cartRam a =>
    dsimp only [State.writePlace, State.cartRamWrite]
    split
    · rfl
    · split <;> rfl
  | vram k | oam k => dsimp only [State.writePlace]; split <;> rfl
  | io r =>
    cases r with
    | p1 => dsimp only [State.writePlace, State.ioWrite, State.p1Write]; rw [State.evalJoypad_changes]; rfl
    | lcdc => dsimp only [State.writePlace, State.ioWrite, Ppu.writeLcdc]; split_ifs <;> rfl
    | dma => dsimp only [State.writePlace, State.ioWrite, State.oamDma]; rw [State.oamCopy_changes]; unfold State.cgbPart; rfl
    | key1 | vbk | hdma1 | hdma2 | hdma3 | hdma4 | hdma5 | bcps | bcpd | ocps | ocpd | svbk =>
      exact absurd (hm.symm.trans hp) nofun
    | _ => rfl
  | _ => rfl

theorem State.busWrite_cgbPart {s : State} (hm : s.cfg.hwMode = .dmg) (a : Word) (v : Byte) :
    (s.busWrite a v).cgbPart = s.cgbPart :=
  State.writePlace_cgbPart hm (s.place_inRange a) v

theorem State.enterMode_cgbPart (s : State) (m : PpuMode) : (s.enterMode m).cgbPart = s.cgbPart := by
  cases m with
  | hblank => dsimp only [State.enterMode]; split <;> rfl
  | _ => rfl

theorem State.evalStatLine_cgbPart (s : State) : s.evalStatLine.cgbPart = s.cgbPart := by
  unfold State.evalStatLine State.requestIf
  dsimp only
  split <;> rfl

theorem State.advanceDot_cgbPart (s : State) : State.cgbPart { s with ppu := s.ppu.advanceDot } = s.cgbPart := by
  unfold Ppu.advanceDot
  split <;> rfl

theorem State.ppuTick_cgbPart (s : State) : s.ppuTick.cgbPart = s.cgbPart := by
  have hdot := State.advanceDot_cgbPart { s with ppu.hblankEntered := false }
  unfold State.ppuTick
  dsimp only
  split
  · rfl
  · rw [State.evalStatLine_cgbPart]
    split
    · exact hdot
    · exact (State.enterMode_cgbPart _ _).trans hdot

/-- The devices before HDMA leave the CGB part alone. -/
theorem State.serialTick_ppuTick_timerTick_cgbPart (s : State) : s.timerTick.ppuTick.serialTick.cgbPart = s.cgbPart := by
  have hserial (t : State) : t.serialTick.cgbPart = t.cgbPart := by rw [State.serialTick_changes]; rfl
  have htimer : s.timerTick.cgbPart = s.cgbPart := by rw [State.timerTick_changes]; rfl
  rw [hserial, State.ppuTick_cgbPart, htimer]

/-- Without an active transfer HDMA does nothing (63_io_devices R579). -/
theorem State.hdmaTick_of_inactive {s : State} (h : s.hdma.active = false) : s.hdmaTick = s := by
  simp [State.hdmaTick, h]

/-- With no transfer active a device cycle leaves the CGB part alone. -/
theorem State.deviceCycle_cgbPart {s : State} (h : s.hdma.active = false) : s.deviceCycle.cgbPart = s.cgbPart := by
  have hcgb := s.serialTick_ppuTick_timerTick_cgbPart
  have hactive : s.timerTick.ppuTick.serialTick.hdma.active = false := by
    rw [show s.timerTick.ppuTick.serialTick.hdma = s.hdma from congrArg CgbPart.hdma hcgb, h]
  rw [State.deviceCycle, State.hdmaTick_of_inactive hactive, hcgb]

/-- A device cycle never writes the palette memories, HDMA active or not. -/
theorem State.deviceCycle_palettes (s : State) :
    s.deviceCycle.ppu.bgPal = s.ppu.bgPal ∧ s.deviceCycle.ppu.objPal = s.ppu.objPal := by
  have hcgb := s.serialTick_ppuTick_timerTick_cgbPart
  rw [State.deviceCycle, State.hdmaTick_changes]
  exact ⟨congrArg CgbPart.bgPal hcgb, congrArg CgbPart.objPal hcgb⟩

/-- Every part of a step keeps the registers of CGB mode at reset in DMG mode (63_io_devices R582). -/
theorem State.dmgQuiet_keptByParts : State.KeptByParts State.DmgQuiet where
  update _ hs hspeed hm := by
    obtain ⟨hdouble, hprepare, hrest⟩ := hs hm
    exact ⟨(hspeed hm).1.trans hdouble, (hspeed hm).2.trans hprepare, hrest⟩
  write {s} a v hs := by
    rw [State.dmgQuiet_iff, State.busWrite_cfg]
    intro hm
    rw [State.busWrite_cgbPart hm]
    exact hs hm
  devices {s} hs := by
    rw [State.dmgQuiet_iff, s.deviceCycle_cpu_cfg.2]
    intro hm
    obtain ⟨-, -, -, -, -, -, hhdma⟩ := hs hm
    rw [State.deviceCycle_cgbPart (by rw [hhdma])]
    exact hs hm

/-- `t` is in DMG mode and has the palette memories of `s`. -/
def State.DmgPalettes (s t : State) : Prop :=
  t.cfg.hwMode = .dmg ∧ t.ppu.bgPal = s.ppu.bgPal ∧ t.ppu.objPal = s.ppu.objPal

/-- In DMG mode no part of a step writes the palette memories (63_io_devices R582). -/
theorem State.dmgPalettes_keptByParts (s : State) : State.KeptByParts s.DmgPalettes where
  update _ h _ := h
  write {t} a v h := by
    obtain ⟨hm, hbg, hobj⟩ := h
    have hcgb := State.busWrite_cgbPart hm a v
    exact ⟨t.busWrite_cfg a v ▸ hm, (congrArg CgbPart.bgPal hcgb).trans hbg, (congrArg CgbPart.objPal hcgb).trans hobj⟩
  devices {t} h := by
    obtain ⟨hm, hbg, hobj⟩ := h
    exact ⟨t.deviceCycle_cpu_cfg.2 ▸ hm, t.deviceCycle_palettes.1.trans hbg, t.deviceCycle_palettes.2.trans hobj⟩

/-- Settles O46: each of the three is kept by every part of a step. -/
theorem cartridgeAndModeInvariantKept : Obligations.cartridgeAndModeInvariantKept := by
  intro s t h
  exact ⟨State.CartOk.keptByParts.step h, State.dmgQuiet_keptByParts.step h,
    fun hm => ((State.dmgPalettes_keptByParts s).step h ⟨hm, rfl, rfl⟩).2⟩

end Sys2Proof.Machine

namespace Sys2Proof.Machine

/-! ## The ROM window -/

section
variable (s : State) {a : Word}

/-- The window 0x0000-0x7FFF is that of the cartridge's ROM (20_memory R82). -/
theorem State.place_rom (ha : a.toNat < 0x8000) : s.place a = .rom a.toNat := if_pos ha

theorem State.busWrite_rom (ha : a.toNat < 0x8000) (v : Byte) : s.busWrite a v = s.cartControl a.toNat v := by
  rw [State.busWrite, s.place_rom ha]
  rfl

theorem State.busRead_rom (ha : a.toNat < 0x8000) : s.busRead a = Memory.read s.cfg.rom (s.romIndex a.toNat) := by
  rw [State.busRead, s.place_rom ha]
  rfl

/-- The lower half of the window shows the bank `b0` (21_cartridge R142). -/
theorem State.busRead_romLow (ha : a.toNat < 0x4000) :
    s.busRead a = Memory.read s.cfg.rom (s.romBankLow % s.cfg.cart.romBanks * 0x4000 + a.toNat) := by
  rw [s.busRead_rom (by omega), State.romIndex, if_pos ha, Nat.mod_eq_of_lt ha]

/-- The upper half of the window shows the bank `bX` (21_cartridge R142). -/
theorem State.busRead_romHigh (hl : 0x4000 ≤ a.toNat) (hu : a.toNat < 0x8000) :
    s.busRead a = Memory.read s.cfg.rom (s.romBankHigh % s.cfg.cart.romBanks * 0x4000 + (a.toNat - 0x4000)) := by
  have hoffset : a.toNat % 0x4000 = a.toNat - 0x4000 := by omega
  rw [s.busRead_rom hu, State.romIndex, if_neg (by omega), hoffset]

end

/-! ## What the control writes store -/

/-- RAM is enabled by a value whose low four bits are 0x0A (21_cartridge R156). -/
theorem enablesRam_eq (v : Byte) : enablesRam v = decide (v.toNat % 16 = 10) := by
  simp only [enablesRam, Bool.beq_eq_decide_eq, BitVec.toNat_eq, and_lowBits_toNat (m := 0x0F#8) (k := 4) rfl]
  rfl

/-- A field put in front of a byte. -/
theorem append_byte_toNat {n : Nat} (x : BitVec n) (y : Byte) : (x ++ y).toNat = x.toNat * 256 + y.toNat := by
  rw [BitVec.toNat_append, ← Nat.shiftLeft_add_eq_or_of_lt y.isLt, Nat.shiftLeft_eq]

/-- MBC5's low bank byte, under the bit 8 that is kept (21_cartridge R152). -/
theorem bankLow_toNat (b : BitVec 9) (v : Byte) : (b.extractLsb' 8 1 ++ v).toNat = b.toNat / 256 * 256 + v.toNat := by
  have hb := b.isLt
  rw [append_byte_toNat, BitVec.extractLsb'_toNat, Nat.shiftRight_eq_div_pow]
  omega

/-- MBC5's bank bit 8, over the low byte that is kept (21_cartridge R152). -/
theorem bankHigh_toNat (b : BitVec 9) (v : Byte) :
    (v.extractLsb' 0 1 ++ b.extractLsb' 0 8).toNat = v.toNat % 2 * 256 + b.toNat % 256 := by
  rw [append_byte_toNat, BitVec.extractLsb'_toNat, BitVec.extractLsb'_toNat]
  rfl

/-! ## The variants -/

/-- But for MBC1 the lower bank is 0, and the upper one is 1 without a controller and the selected bank with one (21_cartridge
R144, R148, R150, R152). -/
theorem State.romBanks_of_ne_mbc1 {s : State} (hv : s.cfg.cart.variant ≠ .mbc1) :
    s.romBankLow = 0 ∧
      s.romBankHigh = if s.cfg.cart.variant = .noController then 1 else s.cart.romBank.toNat := by
  unfold State.romBankLow State.romBankHigh
  cases hvar : s.cfg.cart.variant with
  | mbc1 => exact absurd hvar hv
  | _ => exact ⟨rfl, rfl⟩

/-- MBC1's RAM that is not enabled selects no cell (21_cartridge R143). -/
theorem State.cartRamIndex_mbc1_disabled {s : State} (hv : s.cfg.cart.variant = .mbc1) (hoff : s.cart.ramEnable = false)
    (a : Nat) : s.cartRamIndex a = none := by
  simp [State.cartRamIndex, State.ramBankSelected, State.ramAccessible, hv, hoff]

/-- Settles O51, controller by controller: the window shows the bank the variant selects, and a control write is the branch of
its address range. -/
theorem mbc1Banking : Obligations.mbc1Banking := by
  refine ⟨fun s a v hv => ?mbc1, fun s a hv => ?otherBanks, fun s a v hv ha => ?noController, fun s a v hv => ?mbc2,
    fun s a v hv => ?mbc3, fun s a v hv => ?mbc5⟩
  case mbc1 =>
    have hw (ha : a.toNat < 0x8000) : s.busWrite a v = { s with cart := s.cart.controlMbc1 a.toNat v } := by
      simp only [s.busWrite_rom ha, State.cartControl, hv]
    refine ⟨fun ha => ?low1, fun hl hu => ?high1, fun ha => ?enable1, fun hl hu => ?romBank1, fun hl hu => ?ramBank1,
      fun hl hu => ?mode1, fun hl hu hoff => ?ram1⟩
    case low1 => simp only [s.busRead_romLow ha, State.romBankLow, hv]
    case high1 => simp only [s.busRead_romHigh hl hu, State.romBankHigh, hv]
    case ram1 =>
      rw [s.busRead_cartRam hl hu, s.busWrite_cartRam hl hu]
      exact State.cartRam_of_none (State.cartRamIndex_mbc1_disabled hv hoff _) v
    all_goals
      rw [hw (by omega)]
      simp (disch := omega) only [Cart.controlMbc1, if_pos, if_neg, enablesRam_eq, BitVec.getLsbD, Nat.testBit_zero]
    case romBank1 => exact ⟨_, rfl, rfl, zeroToOne_masked_toNat (k := 5) rfl v⟩
    case ramBank1 => exact ⟨_, rfl, rfl, and_lowBits_toNat (k := 2) rfl v⟩
  case otherBanks =>
    obtain ⟨hlow, hhigh⟩ := State.romBanks_of_ne_mbc1 hv
    exact ⟨fun ha => by rw [s.busRead_romLow ha, hlow, Nat.zero_mod, Nat.zero_mul, Nat.zero_add],
      fun hl hu => by rw [s.busRead_romHigh hl hu, hhigh]⟩
  case noController => simp only [s.busWrite_rom ha, State.cartControl, hv]
  case mbc2 =>
    have hw (ha : a.toNat < 0x8000) : s.busWrite a v = { s with cart := s.cart.controlMbc2 a.toNat v } := by
      simp only [s.busWrite_rom ha, State.cartControl, hv]
    have hbit : a.toNat.testBit 8 = decide (a.toNat / 256 % 2 = 1) := Nat.testBit_eq_decide_div_mod_eq
    refine ⟨fun ha heven => ?enable2, fun ha hodd => ?romBank2, fun hl hu => ?none2⟩
    all_goals
      rw [hw (by omega)]
      simp (disch := omega) only [Cart.controlMbc2, hbit, decide_eq_true_eq, if_pos, if_neg, enablesRam_eq]
    case romBank2 => exact ⟨_, rfl, rfl, zeroToOne_masked_toNat (k := 4) rfl v⟩
  case mbc3 =>
    have hw (ha : a.toNat < 0x8000) : s.busWrite a v = { s with cart := s.cart.controlMbc3 a.toNat v } := by
      simp only [s.busWrite_rom ha, State.cartControl, hv]
    refine ⟨fun ha => ?enable3, fun hl hu => ?romBank3, fun hl hu => ?ramBank3, fun hl hu => ?none3⟩
    all_goals
      rw [hw (by omega)]
      simp (disch := omega) only [Cart.controlMbc3, if_pos, if_neg, enablesRam_eq]
    case romBank3 => exact ⟨_, rfl, rfl, zeroToOne_masked_toNat (k := 7) rfl v⟩
  case mbc5 =>
    have hw (ha : a.toNat < 0x8000) : s.busWrite a v = { s with cart := s.cart.controlMbc5 a.toNat v } := by
      simp only [s.busWrite_rom ha, State.cartControl, hv]
    refine ⟨fun ha => ?enable5, fun hl hu => ?bankLow5, fun hl hu => ?bankHigh5, fun hl hu => ?ramBank5, fun hl hu => ?none5⟩
    all_goals
      rw [hw (by omega)]
      simp (disch := omega) only [Cart.controlMbc5, if_pos, if_neg, enablesRam_eq]
    case bankLow5 => exact ⟨_, rfl, rfl, bankLow_toNat _ v⟩
    case bankHigh5 => exact ⟨_, rfl, rfl, bankHigh_toNat _ v⟩
    case ramBank5 => exact ⟨_, rfl, rfl, and_lowBits_toNat (k := 4) rfl v⟩

end Sys2Proof.Machine

/-! ## The encoding (30_encoding)

Bytes and instructions are compared through the opcode's row: an instruction is the one its row gives for an operand word, and
its bytes are the opcode and the bytes the row takes of that word. -/

namespace Sys2Proof

/-- The instruction a row gives for the operand word `w`; a one-byte operand is its low byte (30_encoding R180). -/
def Row.instr (w : Word) : Row → Instr
  | .op i => i
  | .n8 f => f (loByte w)
  | .n16 f => f w

/-- The operand bytes of a row for the operand word `w`, little-endian (30_encoding R180, R189). -/
def Row.operand (w : Word) : Row → List Byte
  | .op _ => []
  | .n8 _ => [loByte w]
  | .n16 _ => leBytes w

/-- How many operand bytes a row takes (30_encoding R180). -/
def Row.width : Row → Nat
  | .op _ => 0
  | .n8 _ => 1
  | .n16 _ => 2

@[simp] theorem Row.length_operand (p : Row) (w : Word) : (p.operand w).length = p.width := by
  cases p <;> rfl

theorem Row.width_le (p : Row) : p.width ≤ 2 := by
  cases p <;> simp [Row.width]

/-- Two bytes begin with the operand bytes of every row. -/
theorem Row.operand_join_append (p : Row) (h l : Byte) (r : List Byte) :
    ∃ rest, l :: h :: r = p.operand (join h l) ++ rest := by
  cases p with
  | op i => exact ⟨l :: h :: r, rfl⟩
  | n8 f => exact ⟨h :: r, by simp [Row.operand]⟩
  | n16 f => exact ⟨r, by simp [Row.operand, leBytes]⟩

/-! ### The decoder, by the row -/

/-- What the decoder answers for an opcode, its row's operand bytes and any tail. -/
theorem decode_opcode_operand (o : Byte) (w : Word) (rest : List Byte) :
    decode (o :: (primaryRow o).operand w ++ rest) = .ok ((primaryRow o).instr w, rest) := by
  cases h : primaryRow o <;> simp [decode, h, Row.operand, Row.instr, leBytes]

/-- The decoder accepts nothing else. -/
theorem decode_eq_ok {bs : List Byte} {i : Instr} {rest : List Byte} (h : decode bs = .ok (i, rest)) :
    ∃ o w, i = (primaryRow o).instr w ∧ bs = o :: (primaryRow o).operand w ++ rest := by
  cases bs with
  | nil => cases h
  | cons o r =>
    match hrow : primaryRow o, r, h with
    | .op j, r, h =>
      obtain ⟨rfl, rfl⟩ : j = i ∧ r = rest := by simpa [decode, hrow] using h
      exact ⟨o, 0, by simp [hrow, Row.instr, Row.operand]⟩
    | .n8 f, n :: r, h =>
      obtain ⟨rfl, rfl⟩ : f n = i ∧ r = rest := by simpa [decode, hrow] using h
      exact ⟨o, join 0 n, by simp [hrow, Row.instr, Row.operand]⟩
    | .n16 f, lo :: hi :: r, h =>
      obtain ⟨rfl, rfl⟩ : f (join hi lo) = i ∧ r = rest := by simpa [decode, hrow] using h
      exact ⟨o, join hi lo, by simp [hrow, Row.instr, Row.operand, leBytes]⟩
    | .n8 _, [], h | .n16 _, [], h | .n16 _, [_], h => simp [decode, hrow] at h

/-! ### The encoder, by the row -/

theorem byte_eq_ofNat (o : Byte) : ∃ k < 256, o = BitVec.ofNat 8 k := ⟨o.toNat, o.isLt, by simp⟩

/-- Sub-opcode by sub-opcode, the two tables of the CB page agree (30_encoding R199). -/
theorem cbInstr_wellFormed_and_encode (s : Byte) : (cbInstr s).wellFormed = true ∧ encode (cbInstr s) = [0xCB#8, s] := by
  obtain ⟨k, hk, rfl⟩ := byte_eq_ofNat s
  interval_cases k <;> exact ⟨rfl, rfl⟩

/-- Opcode by opcode, the encoder's table agrees with the decoder's rows whatever the operand; 0xCB is the CB page's
(30_encoding R198). -/
theorem primaryRow_instr_wellFormed_and_encode (o : Byte) (w : Word) :
    ((primaryRow o).instr w).wellFormed = true ∧ encode ((primaryRow o).instr w) = o :: (primaryRow o).operand w := by
  obtain ⟨k, hk, rfl⟩ := byte_eq_ofNat o
  obtain hlt | rfl | hgt := Nat.lt_trichotomy k 0xCB
  · interval_cases k <;> exact ⟨rfl, rfl⟩
  · exact cbInstr_wellFormed_and_encode (loByte w)
  · interval_cases k <;> exact ⟨rfl, rfl⟩

/-- Settles O1, constructor by constructor: an operand word is joined again from its two bytes, and all else is read as it was
written. -/
theorem decodeOfEncode : Obligations.decodeOfEncode := by
  intro i rest hi
  cases i
  case prefixCB s => cases hi
  case ld_BC_nn w | ld_DE_nn w | ld_HL_nn w | ld_SP_nn w | ld_mnn_SP w | ld_mnn_A w | ld_A_mnn w | jp_nn w | jp_NZ_nn w
      | jp_Z_nn w | jp_NC_nn w | jp_C_nn w | call_nn w | call_NZ_nn w | call_Z_nn w | call_NC_nn w | call_C_nn w =>
    exact decode_opcode_operand _ w rest
  all_goals rfl

/-- Settles O2: what the decoder accepts is an opcode with its row's operand bytes, which are the encoder's. -/
theorem encodeOfDecode : Obligations.encodeOfDecode := by
  intro bs i rest h
  obtain ⟨o, w, rfl, rfl⟩ := decode_eq_ok h
  obtain ⟨hwf, henc⟩ := primaryRow_instr_wellFormed_and_encode o w
  exact ⟨hwf, by rw [henc]⟩

/-! ### Lengths -/

theorem Instr.eq_prefixCB {i : Instr} (h : i.wellFormed = false) : ∃ s, i = .prefixCB s := by
  unfold Instr.wellFormed at h
  split at h
  · exact ⟨_, rfl⟩
  · cases h

theorem primaryRow_instr_length (o : Byte) (w : Word) : ((primaryRow o).instr w).length = (primaryRow o).width + 1 := by
  rw [Instr.length, (primaryRow_instr_wellFormed_and_encode o w).2, List.length_cons, Row.length_operand]

/-- The first byte of an instruction's encoding decides its length; `PREFIX CB` has the length of the CB instructions. -/
theorem Instr.length_of_encode {i : Instr} {o : Byte} {r : List Byte} (h : encode i = o :: r) :
    i.length = (primaryRow o).width + 1 := by
  cases hwf : i.wellFormed with
  | false =>
    obtain ⟨s, rfl⟩ := Instr.eq_prefixCB hwf
    cases h
    rfl
  | true =>
    have hdec : decode (o :: r) = .ok (i, []) := by
      rw [← h, ← List.append_nil (encode i)]
      exact decodeOfEncode i [] hwf
    obtain ⟨o', w, rfl, hbs⟩ := decode_eq_ok hdec
    obtain ⟨rfl, -⟩ := List.cons.inj hbs
    exact primaryRow_instr_length o w

/-- Settles O3: two bytes after the opcode hold the operand of every row, and the row is the first byte's. -/
theorem decodeTotalAndLengthByOpcode : Obligations.decodeTotalAndLengthByOpcode := by
  refine ⟨fun b0 b1 b2 r => ?total, fun i j o r q hi hj => ?length⟩
  case total =>
    obtain ⟨rest, hbytes⟩ := (primaryRow b0).operand_join_append b2 b1 r
    have hcount := congrArg List.length hbytes
    have hlen := primaryRow_instr_length b0 (join b2 b1)
    have hwidth := (primaryRow b0).width_le
    simp only [List.length_cons, List.length_append, Row.length_operand] at hcount
    refine ⟨(primaryRow b0).instr (join b2 b1), rest, ?_, by omega, by omega, by omega⟩
    rw [hbytes]
    exact decode_opcode_operand b0 (join b2 b1) rest
  case length => rw [Instr.length_of_encode hi, Instr.length_of_encode hj]

/-- Settles O4: each word is the encoding of its instruction. -/
theorem decodeSampleWords : Obligations.decodeSampleWords :=
  have h (i : Instr) (hi : i.wellFormed = true) : decode (encode i ++ []) = .ok (i, []) := decodeOfEncode i [] hi
  ⟨h .ld_B_C rfl, h (.ld_A_n 0x5A) rfl, h (.ld_mnn_A 0xFF80) rfl, h (.ld_SP_nn 0xFFFE) rfl, h .sbc_A_mHL rfl,
    h .add_HL_SP rfl, h .swap_A rfl, h .res_3_mHL rfl, h (.jr_NZ_e 0xFC) rfl, h .rst_28 rfl, h .halt rfl,
    h (.stop 0x00) rfl, h .illegal_DD rfl⟩

end Sys2Proof

/-! ## The frames of the 8-bit loads (40_load8) -/

namespace Sys2Proof.Machine

/-! ### Register updates -/

/-- An update of registers alone has the frame, with the cost the CPU then holds. -/
theorem State.registerFrame_of_registersOnly {s : State} {u : Cpu} (hu : s.cpu.RegistersOnly u) :
    s.registerFrame { s with cpu := u } u.cost :=
  ⟨rfl, ⟨hu.ime, hu.imePending, hu.runMode, hu.haltBug, hu.locked, hu.doubleSpeed, hu.speedPrepare⟩, rfl,
    s.busRead_cpu u hu.doubleSpeed hu.speedPrepare⟩

theorem State.registerFrame.trans {s t u : State} {c d : Nat} (h : s.registerFrame t c) (h' : t.registerFrame u d) :
    s.registerFrame u d := by
  obtain ⟨-, ⟨h1, h2, h3, h4, h5, h6, h7⟩, hout, hbytes⟩ := h
  obtain ⟨hcost, ⟨k1, k2, k3, k4, k5, k6, k7⟩, hout', hbytes'⟩ := h'
  refine ⟨hcost, ⟨k1.trans h1, k2.trans h2, k3.trans h3, k4.trans h4, k5.trans h5, k6.trans h6, k7.trans h7⟩, ?_,
    fun a => (hbytes' a).trans (hbytes a)⟩
  exact hout'.trans (congrArg (fun x : State => { x with cpu := u.cpu }) hout)

theorem State.registerFrame_setReg (s : State) (r : Reg8) (v : Byte) : s.registerFrame (s.setReg r v) s.cpu.cost :=
  s.cpu.setReg_cost r v ▸ State.registerFrame_of_registersOnly (by constructor <;> simp)

theorem State.registerFrame_setPair (s : State) (p : Pair) (v : Word) : s.registerFrame (s.setPair p v) s.cpu.cost :=
  s.cpu.setPair_cost p v ▸ State.registerFrame_of_registersOnly (by constructor <;> simp)

theorem State.registerFrame_charge (s : State) (c : Nat) : s.registerFrame (s.charge c) c :=
  State.registerFrame_of_registersOnly ⟨rfl, rfl, rfl, rfl, rfl, rfl, rfl, id⟩

/-- A bus write followed by an update of registers has the frame of a store. -/
theorem State.registerFrame.storeFrame {s t : State} {a : Word} {v : Byte} {c : Nat}
    (h : (s.busWrite a v).registerFrame t c) : s.storeFrame t a v c := by
  obtain ⟨hcost, ⟨h1, h2, h3, h4, h5, h6, hprep⟩, hout, hbytes⟩ := h
  exact ⟨hcost, (s.busWrite_storeControlKept a v).trans ⟨h1, h2, h3, h4, h5, h6⟩, hprep, hout,
    fun hp b hb => (hbytes b).trans (s.busRead_busWrite_other v hp hb),
    fun hs => (hbytes a).trans (s.busRead_busWrite_same v hs)⟩

@[simp] theorem State.getReg_setReg (s : State) (r j : Reg8) (v : Byte) :
    (s.setReg r v).getReg j = if j = r then v else s.getReg j :=
  s.cpu.getReg_setReg r j v

@[simp] theorem State.getReg_charge (s : State) (c : Nat) (r : Reg8) : (s.charge c).getReg r = s.getReg r := by
  cases r <;> rfl

@[simp] theorem State.hl_charge (s : State) (c : Nat) : (s.charge c).hl = s.hl := rfl

@[simp] theorem State.hl_busWrite (s : State) (a : Word) (v : Byte) : (s.busWrite a v).hl = s.hl :=
  congrArg₂ join (s.busWrite_getReg a v .h) (s.busWrite_getReg a v .l)

/-! ### What the use of a memory operand leaves -/

/-- HL after the use of a memory operand, from HL before it (40_load8 R236 to R239). -/
def MemOperand.hlAfter (m : MemOperand) (hl : Word) : Word :=
  match m with
  | .hlInc => hl + 1
  | .hlDec => hl - 1
  | .hl | .bc | .de | .abs _ | .highC | .highN _ => hl

@[simp] theorem State.hl_memPost (s : State) (m : MemOperand) : (s.memPost m).hl = m.hlAfter s.hl := by
  cases m with
  | hlInc | hlDec => exact s.cpu.getPair_setPair .hl _
  | _ => rfl

theorem State.regsKept_memPost (s : State) (m : MemOperand) : s.regsKept (s.memPost m) [.h, .l] := by
  intro r hr
  cases m with
  | hlInc | hlDec =>
    cases r with
    | h | l => simp at hr
    | _ => rfl
  | _ => rfl

theorem State.flagsSpPcKept_memPost (s : State) (m : MemOperand) : s.flagsSpPcKept (s.memPost m) := by
  cases m <;> exact ⟨rfl, rfl, rfl⟩

theorem State.registerFrame_memPost (s : State) (m : MemOperand) : s.registerFrame (s.memPost m) s.cpu.cost := by
  cases m with
  | hlInc | hlDec => exact s.registerFrame_setPair _ _
  | _ => exact State.registerFrame_of_registersOnly ⟨rfl, rfl, rfl, rfl, rfl, rfl, rfl, id⟩

/-! ### Loads and stores -/

/-- A load of a register from a register, an immediate or memory writes that register alone (40_load8 R221 to R223). -/
theorem State.ldReg_loads (s : State) (dst : Reg8) (v : Byte) (c : Nat) :
    (s.ldReg dst v c).getReg dst = v ∧ s.regsKept (s.ldReg dst v c) [dst] ∧ s.flagsSpPcKept (s.ldReg dst v c) ∧
      s.registerFrame (s.ldReg dst v c) c := by
  refine ⟨?value, fun r hr => ?other, ?flags, (s.registerFrame_setReg dst v).trans (State.registerFrame_charge _ c)⟩
  case value => simp [State.ldReg]
  case other => simp [State.ldReg, List.ne_of_not_mem_cons hr]
  case flags => exact ⟨s.cpu.setReg_f dst v, s.cpu.setReg_sp dst v, s.cpu.setReg_pc dst v⟩

/-- An instruction whose meaning loads A from the operand `m` loads it from the operand's address (40_load8 R226 to R238). -/
theorem State.loadsA_of_exec {s : State} {i : Instr} (m : MemOperand) {c : Nat}
    (hi : exec i s = .next (s.loadMem .a m c)) : s.loadsA i (s.memAddr m) (m.hlAfter s.hl) c := by
  have hregs := (s.setReg .a (s.busRead (s.memAddr m))).regsKept_memPost m
  refine ⟨_, hi, ?value, ?hl, fun r hr => ?other, (s.setReg .a _).flagsSpPcKept_memPost m, ?frame⟩
  case value => exact hregs .a (by decide)
  case hl => exact State.hl_memPost _ m
  case other =>
    obtain ⟨ha, hhl⟩ : r ≠ .a ∧ r ∉ [.h, .l] := by simpa using hr
    simp [State.loadMem, hregs r hhl, ha]
  case frame =>
    exact ((s.registerFrame_setReg .a _).trans (State.registerFrame_memPost _ m)).trans (State.registerFrame_charge _ c)

/-- An instruction whose meaning stores `v` to the operand `m` stores it at the operand's address (40_load8 R224 to R239). -/
theorem State.storesByte_of_exec {s : State} {i : Instr} (m : MemOperand) {v : Byte} {c : Nat}
    (hi : exec i s = .next (s.storeMem m v c)) : s.storesByte i (s.memAddr m) v (m.hlAfter s.hl) c := by
  refine ⟨_, hi, ?hl, fun r hr => ?other, ?flags, ?frame⟩
  case hl => simp [State.storeMem]
  case other => simp [State.storeMem, State.regsKept_memPost _ m r hr, State.busWrite_getReg]
  case flags =>
    obtain ⟨hf, hsp, hpc⟩ := (s.busWrite (s.memAddr m) v).flagsSpPcKept_memPost m
    exact ⟨hf.trans (s.busWrite_f _ v), hsp.trans (s.busWrite_sp _ v), hpc.trans (s.busWrite_pc _ v)⟩
  case frame => exact ((State.registerFrame_memPost _ m).trans (State.registerFrame_charge _ c)).storeFrame

/-! ### The instruction families -/

theorem exec_ldRegReg (dst src : Reg8) (s : State) :
    exec (.ldRegReg dst src) s = .next (s.ldReg dst (s.getReg src) 4) := by
  cases dst <;> cases src <;> rfl

theorem encode_ldRegReg (dst src : Reg8) :
    encode (.ldRegReg dst src) = [0x40#8 + 8 * regCode dst + regCode src] := by
  cases dst <;> cases src <;> rfl

theorem exec_ldRegN (dst : Reg8) (n : Byte) (s : State) : exec (.ldRegN dst n) s = .next (s.ldReg dst n 8) := by
  cases dst <;> rfl

theorem encode_ldRegN (dst : Reg8) (n : Byte) : encode (.ldRegN dst n) = [0x06#8 + 8 * regCode dst, n] := by
  cases dst <;> rfl

theorem exec_ldRegMem (dst : Reg8) (s : State) :
    exec (.ldRegMem dst) s = .next (s.ldReg dst (s.busRead s.hl) 8) := by
  cases dst <;> rfl

theorem encode_ldRegMem (dst : Reg8) : encode (.ldRegMem dst) = [0x46#8 + 8 * regCode dst] := by
  cases dst <;> rfl

theorem exec_ldMemReg (src : Reg8) (s : State) :
    exec (.ldMemReg src) s = .next (s.storeMem .hl (s.getReg src) 8) := by
  cases src <;> rfl

theorem encode_ldMemReg (src : Reg8) : encode (.ldMemReg src) = [0x70#8 + regCode src] := by
  cases src <;> rfl

/-- Settles O8: both forms are one load of a register, from another register or the immediate. -/
theorem loadRegisterOrImmediate : Obligations.loadRegisterOrImmediate := fun s dst =>
  ⟨fun src => ⟨encode_ldRegReg dst src, _, exec_ldRegReg dst src s, s.ldReg_loads dst (s.getReg src) 4⟩,
    fun n => ⟨encode_ldRegN dst n, _, exec_ldRegN dst n s, s.ldReg_loads dst n 8⟩⟩

/-- Settles O9, form by form of the memory operand. -/
theorem loadFromMemory : Obligations.loadFromMemory := fun s =>
  ⟨fun dst => ⟨encode_ldRegMem dst, _, exec_ldRegMem dst s, s.ldReg_loads dst (s.busRead s.hl) 8⟩,
    ⟨rfl, State.loadsA_of_exec .bc rfl⟩,
    ⟨rfl, State.loadsA_of_exec .de rfl⟩,
    fun nn => ⟨rfl, State.loadsA_of_exec (.abs nn) rfl⟩,
    ⟨rfl, State.loadsA_of_exec .highC rfl⟩,
    fun n => ⟨rfl, State.loadsA_of_exec (.highN n) rfl⟩,
    ⟨rfl, State.loadsA_of_exec .hlDec rfl⟩,
    ⟨rfl, State.loadsA_of_exec .hlInc rfl⟩⟩

/-- Settles O10, form by form of the memory operand. -/
theorem storeToMemory : Obligations.storeToMemory := fun s =>
  ⟨fun src => ⟨encode_ldMemReg src, State.storesByte_of_exec .hl (exec_ldMemReg src s)⟩,
    fun _ => ⟨rfl, State.storesByte_of_exec .hl rfl⟩,
    ⟨rfl, State.storesByte_of_exec .bc rfl⟩,
    ⟨rfl, State.storesByte_of_exec .de rfl⟩,
    fun nn => ⟨rfl, State.storesByte_of_exec (.abs nn) rfl⟩,
    ⟨rfl, State.storesByte_of_exec .highC rfl⟩,
    fun n => ⟨rfl, State.storesByte_of_exec (.highN n) rfl⟩,
    ⟨rfl, State.storesByte_of_exec .hlDec rfl⟩,
    ⟨rfl, State.storesByte_of_exec .hlInc rfl⟩⟩

end Sys2Proof.Machine

/-! ## The 16-bit loads and the stack (41_load16_stack) -/

namespace Sys2Proof.Machine

/-! ### Pairs, flags and frames -/

/-- The pairs share no register. -/
theorem State.getPair_setPair (s : State) (p q : Pair) (v : Word) :
    (s.setPair p v).getPair q = if q = p then v else s.getPair q := by
  cases p <;> cases q <;> simp [State.setPair, State.getPair, Cpu.setPair, Cpu.getPair]

/-- The stack pairs share no register; AF is left out, since it loses F's low nibble (10_state R33). -/
theorem State.getStackPair_setStackPair (s : State) {q : StackPair} (h : q ≠ .af) (p : StackPair) (v : Word) :
    (s.setStackPair q v).getStackPair p = if p = q then v else s.getStackPair p := by
  cases q with
  | af => exact absurd rfl h
  | _ => cases p <;> simp [State.setStackPair, State.getStackPair, Cpu.setStackPair, Cpu.getStackPair]

/-- A stack pair other than AF leaves F alone. -/
theorem State.setStackPair_f (s : State) {q : StackPair} (h : q ≠ .af) (v : Word) : (s.setStackPair q v).cpu.f = s.cpu.f := by
  cases q with
  | af => exact absurd rfl h
  | _ => rfl

theorem State.regsKept_setPair_sp (s : State) (v : Word) : s.regsKept (s.setPair .sp v) [] := by
  intro r _
  cases r <;> rfl

theorem State.regsKept_setPair_hl (s : State) (v : Word) : s.regsKept (s.setPair .hl v) [.h, .l] := by
  intro r hr
  cases r with
  | h | l => simp at hr
  | _ => rfl

theorem State.regsKept_setStackPair_af (s : State) (v : Word) : s.regsKept (s.setStackPair .af v) [.a] := by
  intro r hr
  cases r with
  | a => simp at hr
  | _ => rfl

@[simp] theorem State.getReg_setF (s : State) (v : Byte) (r : Reg8) : (s.setF v).getReg r = s.getReg r := by
  cases r <;> rfl

theorem State.registerFrame_setStackPair (s : State) (q : StackPair) (v : Word) :
    s.registerFrame (s.setStackPair q v) s.cpu.cost :=
  ⟨s.cpu.setStackPair_cost q v, by simp [State.controlKept], rfl, s.busRead_setStackPair q v⟩

theorem State.registerFrame_setF (s : State) (v : Byte) : s.registerFrame (s.setF v) s.cpu.cost :=
  ⟨rfl, ⟨rfl, rfl, rfl, rfl, rfl, rfl, rfl⟩, rfl, s.busRead_setF v⟩

/-- Two bus writes followed by an update of registers have the frame of two stores. -/
theorem State.registerFrame.twoStoreFrame {s t : State} {a b : Word} {v w : Byte} {c : Nat}
    (h : ((s.busWrite a v).busWrite b w).registerFrame t c) : s.twoStoreFrame t a v b w c := by
  obtain ⟨hcost, ⟨h1, h2, h3, h4, h5, h6, hprep⟩, hout, hbytes⟩ := h
  have hctl := (s.busWrite_storeControlKept a v).trans ((s.busWrite a v).busWrite_storeControlKept b w)
  refine ⟨hcost, hctl.trans ⟨h1, h2, h3, h4, h5, h6⟩, hprep, hout, fun ha hb => ?_⟩
  obtain ⟨hplace, hstores⟩ := s.busWrite_plain_keeps v ha
  have hsecond (x : Word) (hx : s.place x ≠ s.place b) : t.busRead x = (s.busWrite a v).busRead x :=
    (hbytes x).trans (State.busRead_busWrite_other _ w (by rwa [hplace]) (by rwa [hplace, hplace]))
  exact ⟨fun x hxa hxb => (hsecond x hxb).trans (s.busRead_busWrite_other v ha hxa),
    fun hs hne => (hsecond a hne).trans (s.busRead_busWrite_same v hs),
    fun hs => (hbytes b).trans (State.busRead_busWrite_same _ w (by rwa [hplace, hstores]))⟩

/-- F as a flag byte puts each flag where F's layout has it (10_state R32, R33). -/
theorem State.flagsAre_of_f {t : State} {z n h c : Bool} (hf : t.cpu.f = flagByte z n h c) :
    t.flagsAre (z = true) (n = true) (h = true) (c = true) := by
  have hlow : t.cpu.f &&& 0x0F#8 = 0#8 := by
    rw [hf, ← clearLowNibble_flagByte]
    exact clearLowNibble_low _
  refine ⟨?_, ?_, ?_, ?_, hlow⟩
  · simp only [Cpu.flagZ, hf, flagByte_z]
  · simp only [Cpu.flagN, hf, flagByte_n]
  · simp only [Cpu.flagH, hf, flagByte_h]
  · simp only [Cpu.flagC, hf, flagByte_c]

/-! ### LD rr,nn, LD SP,HL and LD (nn),SP -/

theorem exec_ldPairNn (p : Pair) (nn : Word) (s : State) : exec (.ldPairNn p nn) s = .next (s.ldPair p nn) := by
  cases p <;> rfl

theorem encode_ldPairNn (p : Pair) (nn : Word) :
    encode (.ldPairNn p nn) = [0x01#8 + 16 * pairCode p, loByte nn, hiByte nn] := by
  cases p <;> rfl

/-- A write of a pair and a cost have the frame of a register update. -/
theorem State.registerFrame_setPair_charge (s : State) (p : Pair) (v : Word) (c : Nat) :
    s.registerFrame ((s.setPair p v).charge c) c :=
  (s.registerFrame_setPair p v).trans (State.registerFrame_charge _ c)

/-- `LD rr,nn` writes the pair alone (41_load16_stack R261). -/
theorem State.ldPair_loads (s : State) (p : Pair) (nn : Word) :
    (s.ldPair p nn).getPair p = nn ∧ (∀ q, q ≠ p → (s.ldPair p nn).getPair q = s.getPair q) ∧
      (s.ldPair p nn).cpu.a = s.cpu.a ∧ (s.ldPair p nn).cpu.f = s.cpu.f ∧ (s.ldPair p nn).cpu.pc = s.cpu.pc ∧
      s.registerFrame (s.ldPair p nn) 12 :=
  ⟨s.cpu.getPair_setPair p nn, fun q hq => (s.getPair_setPair p q nn).trans (if_neg hq), s.cpu.setPair_a p nn,
    s.cpu.setPair_f p nn, s.cpu.setPair_pc p nn, s.registerFrame_setPair_charge p nn 12⟩

/-- `LD (nn),SP` leaves the registers alone (41_load16_stack R262). -/
theorem State.ldMemSp_kept (s : State) (nn : Word) : s.regsKept (s.ldMemSp nn) [] ∧ s.flagsSpPcKept (s.ldMemSp nn) := by
  constructor
  · intro r _
    simp [State.ldMemSp, State.busWrite16, State.busWrite_getReg]
  · simp [State.ldMemSp, State.busWrite16, State.flagsSpPcKept]

/-- Settles O11: two updates of one pair, and two bus writes that leave the registers alone. -/
theorem loadPairAndStoreStackPointer : Obligations.loadPairAndStoreStackPointer := by
  refine ⟨fun s => ⟨fun p nn => ?pair, rfl, _, rfl, ?spHl⟩, fun s nn => ⟨rfl, _, rfl, ?store⟩⟩
  case pair => exact ⟨encode_ldPairNn p nn, _, exec_ldPairNn p nn s, s.ldPair_loads p nn⟩
  case spHl =>
    exact ⟨rfl, fun r hr => s.regsKept_setPair_sp s.hl r hr, rfl, rfl, s.registerFrame_setPair_charge .sp s.hl 8⟩
  case store =>
    obtain ⟨hregs, hflags⟩ := s.ldMemSp_kept nn
    exact ⟨hregs, hflags, (State.registerFrame_charge _ 20).twoStoreFrame⟩

/-! ### LD HL,SP+e and ADD SP,e -/

/-- The sum with a sign-extended byte is the signed sum, modulo 2^16 (00_scope R10, 43_alu16 R334). -/
theorem add_sext16_toNat (w : Word) (e : Byte) : ((w + sext16 e).toNat : Int) = (w.toNat + e.toInt) % 65536 := by
  have he : (sext16 e).toInt = e.toInt := BitVec.toInt_signExtend_of_le (by decide)
  rw [BitVec.toInt_eq_toNat_cond] at he
  rw [BitVec.toNat_add]
  omega

/-- The flags of `addSp16`, once they are in F (43_alu16 R334). -/
theorem State.flagsAre_addSp16 {t : State} {sp : Word} {e : Byte} (hf : t.cpu.f = clearLowNibble (addSp16 sp e).f) :
    t.flagsAre False False (15 < sp.toNat % 16 + e.toNat % 16) (255 < sp.toNat % 256 + e.toNat) := by
  simpa using State.flagsAre_of_f (hf.trans (clearLowNibble_flagByte _ _ _ _))

/-- A write of a pair, of F and a cost have the frame of a register update. -/
theorem State.registerFrame_setPair_setF_charge (s : State) (p : Pair) (v : Word) (f : Byte) (c : Nat) :
    s.registerFrame (((s.setPair p v).setF f).charge c) c :=
  ((s.registerFrame_setPair p v).trans (State.registerFrame_setF _ f)).trans (State.registerFrame_charge _ c)

/-- Settles O12: both put one sum into a pair and its flags into F. -/
theorem stackPointerPlusDisplacement : Obligations.stackPointerPlusDisplacement := by
  refine fun s e => ⟨⟨rfl, _, rfl, ?sumHl, State.flagsAre_addSp16 rfl, fun r hr => ?regsHl, ⟨rfl, rfl⟩,
    s.registerFrame_setPair_setF_charge _ _ _ 12⟩, ⟨rfl, _, rfl, add_sext16_toNat _ e, State.flagsAre_addSp16 rfl,
    fun r hr => ?regsSp, rfl, s.registerFrame_setPair_setF_charge _ _ _ 16⟩⟩
  case sumHl =>
    have hhl : (s.ldHlSp e).hl = s.cpu.sp + sext16 e := s.cpu.getPair_setPair .hl _
    exact hhl ▸ add_sext16_toNat s.cpu.sp e
  case regsHl => simpa [State.ldHlSp] using s.regsKept_setPair_hl _ r hr
  case regsSp => simpa [State.addSp] using s.regsKept_setPair_sp _ r hr

/-! ### PUSH and POP -/

theorem exec_push (q : StackPair) (s : State) : exec (.push q) s = .next (s.pushPair q) := by cases q <;> rfl

theorem encode_push (q : StackPair) : encode (.push q) = [0xC5#8 + 16 * stackPairCode q] := by cases q <;> rfl

theorem exec_pop (q : StackPair) (s : State) : exec (.pop q) s = .next (s.popPair q) := by cases q <;> rfl

theorem encode_pop (q : StackPair) : encode (.pop q) = [0xC1#8 + 16 * stackPairCode q] := by cases q <;> rfl

/-- A bus write and a write of SP can change places: the bus does not see SP. -/
theorem State.busWrite_setPair_sp (s : State) (x a : Word) (v : Byte) :
    (s.setPair .sp x).busWrite a v = (s.busWrite a v).setPair .sp x := by
  refine (s.busWrite_cpu { s.cpu with sp := x } ⟨rfl, rfl⟩ a v).trans ?_
  simp only [State.setPair, Cpu.setPair]
  rw [(s.busWrite_cpu_cfg a v).1]

/-- A push of one byte is a bus write below SP, and then SP falls by 1 (20_memory R102). -/
theorem State.push8_eq (s : State) (v : Byte) :
    s.push8 v = (s.busWrite (s.cpu.sp - 1) v).setPair .sp (s.cpu.sp - 1) :=
  s.busWrite_setPair_sp _ _ v

/-- A push is two bus writes, the high byte at SP - 1 and the low byte at SP - 2, and then SP falls by 2 (20_memory R102). -/
theorem State.push16_eq (s : State) (v : Word) :
    s.push16 v =
      ((s.busWrite (s.cpu.sp - 1) (hiByte v)).busWrite (s.cpu.sp - 2) (loByte v)).setPair .sp (s.cpu.sp - 2) := by
  have hsp : s.cpu.sp - 1 - 1 = s.cpu.sp - 2 := BitVec.sub_sub ..
  rw [State.push16, s.push8_eq, State.push8_eq, State.busWrite_setPair_sp, ← hsp]
  rfl

/-- `PUSH qq` moves SP alone and stores the pair's two bytes (41_load16_stack R265). -/
theorem State.pushPair_stores (s : State) (q : StackPair) :
    (s.pushPair q).cpu.sp = s.cpu.sp - 2 ∧ s.regsKept (s.pushPair q) [] ∧ (s.pushPair q).cpu.f = s.cpu.f ∧
      (s.pushPair q).cpu.pc = s.cpu.pc ∧
      s.twoStoreFrame (s.pushPair q) (s.cpu.sp - 1) (hiByte (s.getStackPair q)) (s.cpu.sp - 2)
        (loByte (s.getStackPair q)) 16 := by
  unfold State.pushPair
  rw [State.push16_eq]
  refine ⟨rfl, fun r hr => ?regs, ?f, ?pc, (State.registerFrame_setPair_charge _ _ _ _).twoStoreFrame⟩
  case regs => simp [State.regsKept_setPair_sp _ _ r hr, State.busWrite_getReg]
  case f => simp
  case pc => simp

/-- `POP` of a pair other than AF writes that pair and SP alone (41_load16_stack R266). -/
theorem State.popPair_loads (s : State) {q : StackPair} (hq : q ≠ .af) :
    (s.popPair q).getStackPair q = s.stackTop ∧ (∀ p, p ≠ q → (s.popPair q).getStackPair p = s.getStackPair p) ∧
      (s.popPair q).cpu.f = s.cpu.f := by
  have hread (p : StackPair) : (s.popPair q).getStackPair p = if p = q then s.stackTop else s.dropStack.getStackPair p :=
    s.dropStack.getStackPair_setStackPair hq p s.stackTop
  refine ⟨(hread q).trans (if_pos rfl), fun p hp => ?other, s.dropStack.setStackPair_f hq _⟩
  case other =>
    rw [hread p, if_neg hp]
    cases p <;> rfl

/-- Every POP raises SP by 2, keeps PC and updates registers alone (41_load16_stack R266, R267). -/
theorem State.popPair_frame (s : State) (q : StackPair) :
    (s.popPair q).cpu.sp = s.cpu.sp + 2 ∧ (s.popPair q).cpu.pc = s.cpu.pc ∧ s.registerFrame (s.popPair q) 12 :=
  ⟨s.dropStack.cpu.setStackPair_sp q _, s.dropStack.cpu.setStackPair_pc q _,
    ((s.registerFrame_setPair .sp _).trans (State.registerFrame_setStackPair _ q _)).trans (State.registerFrame_charge _ 12)⟩

/-- `POP AF` puts the two bytes into A and, without its low nibble, F, and writes no other register (41_load16_stack R267). -/
theorem State.popPair_af_loads (s : State) :
    (s.popPair .af).cpu.a = s.busRead (s.cpu.sp + 1) ∧ (s.popPair .af).cpu.f = s.busRead s.cpu.sp &&& 0xF0#8 ∧
      s.regsKept (s.popPair .af) [.a] :=
  ⟨hiByte_join _ _, congrArg clearLowNibble (loByte_join _ _),
    fun r hr => (s.dropStack.regsKept_setStackPair_af _ r hr).trans (by cases r <;> rfl)⟩

/-- Settles O13: a push is two bus writes and a move of SP, a pop a write of one pair and a move of SP. -/
theorem pushAndPopPair : Obligations.pushAndPopPair := by
  refine ⟨fun s q => ⟨encode_push q, _, exec_push q s, s.pushPair_stores q⟩,
    fun s => ⟨fun q hq => ⟨encode_pop q, _, exec_pop q s, ?pop⟩, rfl, _, rfl, ?popAf⟩⟩
  case pop =>
    obtain ⟨hvalue, hothers, hf⟩ := s.popPair_loads hq
    obtain ⟨hsp, hpc, hframe⟩ := s.popPair_frame q
    exact ⟨hvalue, hothers, hsp, hf, hpc, hframe⟩
  case popAf =>
    obtain ⟨ha, hf, hregs⟩ := s.popPair_af_loads
    obtain ⟨hsp, hpc, hframe⟩ := s.popPair_frame .af
    exact ⟨ha, hf, hregs, hsp, hpc, hframe⟩

end Sys2Proof.Machine

/-! ## 8-bit arithmetic and logic (42_alu8) -/

namespace Sys2Proof.Machine

/-! ### A result with its flags -/

/-- A flag byte written to F holds the flags it was built from (10_state R32, R33). -/
theorem State.flagsAre_of_stored {t : State} {z n h c : Bool} (hf : t.cpu.f = clearLowNibble (flagByte z n h c)) :
    t.flagsAre (z = true) (n = true) (h = true) (c = true) :=
  State.flagsAre_of_f (hf.trans (clearLowNibble_flagByte z n h c))

/-- A write of a register, of F and a cost keep the other registers, SP, PC and all outside them. -/
theorem State.setReg_setF_charge_kept (s : State) (r : Reg8) (v f : Byte) (c : Nat) :
    s.regsKept (((s.setReg r v).setF f).charge c) [r] ∧ s.spPcKept (((s.setReg r v).setF f).charge c) ∧
      s.registerFrame (((s.setReg r v).setF f).charge c) c := by
  refine ⟨fun j hj => ?regs, ⟨s.cpu.setReg_sp r v, s.cpu.setReg_pc r v⟩,
    ((s.registerFrame_setReg r v).trans (State.registerFrame_setF _ f)).trans (State.registerFrame_charge _ c)⟩
  case regs => simp [List.ne_of_not_mem_cons hj]

/-- A write of F and a cost keep the registers, SP, PC and all outside them. -/
theorem State.setF_charge_kept (s : State) (f : Byte) (c : Nat) :
    s.regsKept ((s.setF f).charge c) [] ∧ s.spPcKept ((s.setF f).charge c) ∧
      s.registerFrame ((s.setF f).charge c) c :=
  ⟨fun j _ => by simp, ⟨rfl, rfl⟩, (s.registerFrame_setF f).trans (State.registerFrame_charge _ c)⟩

/-- A bus write, a write of F and a cost keep the registers, SP and PC, and have the frame of a store. -/
theorem State.busWrite_setF_charge_kept (s : State) (a : Word) (v f : Byte) (c : Nat) :
    s.regsKept (((s.busWrite a v).setF f).charge c) [] ∧ s.spPcKept (((s.busWrite a v).setF f).charge c) ∧
      s.storeFrame (((s.busWrite a v).setF f).charge c) a v c := by
  obtain ⟨hregs, ⟨hsp, hpc⟩, hframe⟩ := (s.busWrite a v).setF_charge_kept f c
  exact ⟨fun j hj => (hregs j hj).trans (s.busWrite_getReg a v j),
    ⟨hsp.trans (s.busWrite_sp a v), hpc.trans (s.busWrite_pc a v)⟩, hframe.storeFrame⟩

theorem carryNat_eq_toNat (c : Bool) : carryNat c = c.toNat := by cases c <;> rfl

/-! ### ADD, ADC, SUB, SBC, CP, AND, XOR and OR -/

theorem exec_aluInstr (o : AluOp) (x : AluSrc) (s : State) : exec (aluInstr o x) s = .next (s.alu o x) := by
  cases x with
  | reg r => cases o <;> cases r <;> rfl
  | mHL => cases o <;> rfl
  | imm n => cases o <;> rfl

theorem encode_aluInstr (o : AluOp) (x : AluSrc) : encode (aluInstr o x) = aluBytes o x := by
  cases x with
  | reg r => cases o <;> cases r <;> rfl
  | mHL => cases o <;> rfl
  | imm n => cases o <;> rfl

theorem State.aluValue_eq_aluOperand (s : State) (x : AluSrc) : s.aluValue x = s.aluOperand x := by cases x <;> rfl

theorem AluSrc.cost_eq_aluCycles (x : AluSrc) : x.cost = aluCycles x := by cases x <;> rfl

/-- An ALU instruction writes A and F alone (42_alu8 R281 to R304). -/
theorem State.alu_kept (s : State) (o : AluOp) (x : AluSrc) :
    s.regsKept (s.alu o x) [.a] ∧ s.spPcKept (s.alu o x) ∧ s.registerFrame (s.alu o x) (aluCycles x) :=
  x.cost_eq_aluCycles ▸ s.setReg_setF_charge_kept .a _ _ x.cost

/-- An ALU instruction puts the result and the flags of its operation into A and F (42_alu8 R281 to R304). -/
theorem State.alu_result {s : State} {o : AluOp} {x : AluSrc} {r : Flagged}
    (hr : alu8 o s.cpu.a (s.aluOperand x) s.cpu.flagC = r) :
    (s.alu o x).cpu.a = r.value ∧ (s.alu o x).cpu.f = clearLowNibble r.f := by
  subst hr
  rw [← s.aluValue_eq_aluOperand x]
  exact ⟨rfl, rfl⟩

theorem add8_value_toNat (a b : Byte) (c : Bool) : (add8 a b c).value.toNat = (a.toNat + b.toNat + c.toNat) % 256 := by
  rw [← carryNat_eq_toNat]
  exact BitVec.toNat_ofNat _ 8

/-- The flags of `add8`, once they are in F (42_alu8 R280). -/
theorem State.flagsAre_add8 {t : State} {a b : Byte} {c : Bool} (hf : t.cpu.f = clearLowNibble (add8 a b c).f) :
    t.flagsAre ((add8 a b c).value.toNat = 0) False (15 < a.toNat % 16 + b.toNat % 16 + c.toNat)
      (255 < a.toNat + b.toNat + c.toNat) := by
  simpa [← carryNat_eq_toNat, BitVec.toNat_eq, add8] using State.flagsAre_of_stored hf

/-- Settles O14: both operations are `add8`, which differs in the carry in. -/
theorem addWithAndWithoutCarry : Obligations.addWithAndWithoutCarry := by
  intro s x o c ho
  obtain ⟨cin, rfl, hr⟩ : ∃ cin : Bool, c = cin.toNat ∧
      alu8 o s.cpu.a (s.aluOperand x) s.cpu.flagC = add8 s.cpu.a (s.aluOperand x) cin := by
    obtain ⟨rfl, rfl⟩ | ⟨rfl, rfl⟩ := ho
    · exact ⟨false, rfl, rfl⟩
    · exact ⟨s.cpu.flagC, rfl, rfl⟩
  obtain ⟨ha, hf⟩ := State.alu_result hr
  refine ⟨encode_aluInstr o x, _, exec_aluInstr o x s, ?_, ?_, s.alu_kept o x⟩ <;> rw [ha]
  · exact add8_value_toNat ..
  · exact State.flagsAre_add8 hf

theorem sub8_value_toNat (a b : Byte) (c : Bool) :
    ((sub8 a b c).value.toNat : Int) = ((a.toNat : Int) - b.toNat - c.toNat) % 256 := by
  rw [← carryNat_eq_toNat]
  simp only [sub8, BitVec.toNat_ofInt]
  omega

/-- The flags of `sub8`, once they are in F (42_alu8 R280). -/
theorem State.flagsAre_sub8 {t : State} {a b : Byte} {c : Bool} (hf : t.cpu.f = clearLowNibble (sub8 a b c).f) :
    t.flagsAre (((a.toNat : Int) - b.toNat - c.toNat) % 256 = 0) True (a.toNat % 16 < b.toNat % 16 + c.toNat)
      (a.toNat < b.toNat + c.toNat) := by
  rw [← sub8_value_toNat]
  simpa [← carryNat_eq_toNat, BitVec.toNat_eq, sub8] using State.flagsAre_of_stored hf

/-- Settles O15: the flags are those of `sub8` in all three operations; CP keeps A. -/
theorem subtractAndCompare : Obligations.subtractAndCompare := by
  intro s x o c ho
  obtain ⟨cin, rfl, hr⟩ : ∃ cin : Bool, c = cin.toNat ∧
      alu8 o s.cpu.a (s.aluOperand x) s.cpu.flagC =
        { sub8 s.cpu.a (s.aluOperand x) cin with
          value := if o = .cp then s.cpu.a else (sub8 s.cpu.a (s.aluOperand x) cin).value } := by
    obtain ⟨rfl, rfl⟩ | ⟨rfl, rfl⟩ | ⟨rfl, rfl⟩ := ho
    · exact ⟨false, rfl, rfl⟩
    · exact ⟨s.cpu.flagC, rfl, rfl⟩
    · exact ⟨false, rfl, rfl⟩
  obtain ⟨ha, hf⟩ := State.alu_result hr
  refine ⟨encode_aluInstr o x, _, exec_aluInstr o x s, ?_, State.flagsAre_sub8 hf, s.alu_kept o x⟩
  rw [ha]
  split
  · rfl
  · exact sub8_value_toNat ..

/-- A bitwise operation sets Z from its result, sets H for AND alone and clears N and C (42_alu8 R293, R296, R299). -/
theorem alu8_f_of_bitwise {o : AluOp} (ho : o = .and ∨ o = .xor ∨ o = .or) (a v : Byte) (c : Bool) :
    (alu8 o a v c).f = flagByte ((alu8 o a v c).value == 0#8) false (decide (o = .and)) false := by
  obtain rfl | rfl | rfl := ho <;> rfl

/-- Settles O16: the bits operation by operation, the flags for all three. -/
theorem bitwiseLogic : Obligations.bitwiseLogic := by
  intro s x o ho
  obtain ⟨ha, hf⟩ := State.alu_result (s := s) (o := o) (x := x) rfl
  refine ⟨encode_aluInstr o x, _, exec_aluInstr o x s, fun k _ => ?bits, ?flags, s.alu_kept o x⟩ <;> rw [ha]
  case bits =>
    obtain rfl | rfl | rfl := ho
    · exact BitVec.getLsbD_and
    · exact BitVec.getLsbD_xor
    · exact BitVec.getLsbD_or
  case flags =>
    rw [alu8_f_of_bitwise ho] at hf
    simpa using State.flagsAre_of_stored hf

/-! ### INC and DEC of a byte -/

theorem exec_incReg (dst : Reg8) (s : State) : exec (.incReg dst) s = .next (s.incReg dst) := by cases dst <;> rfl

theorem encode_incReg (dst : Reg8) : encode (.incReg dst) = [0x04#8 + 8 * regCode dst] := by cases dst <;> rfl

theorem exec_decReg (dst : Reg8) (s : State) : exec (.decReg dst) s = .next (s.decReg dst) := by cases dst <;> rfl

theorem encode_decReg (dst : Reg8) : encode (.decReg dst) = [0x05#8 + 8 * regCode dst] := by cases dst <;> rfl

theorem inc8_value_toNat (v : Byte) (c : Bool) : (inc8 v c).value.toNat = (v.toNat + 1) % 256 := BitVec.toNat_add v 1#8

theorem dec8_value_toNat (v : Byte) (c : Bool) : (dec8 v c).value.toNat = (v.toNat + 255) % 256 := by
  rw [Nat.add_comm]
  exact BitVec.toNat_sub v 1#8

/-- The flags of `inc8`, once they are in F (42_alu8 R305). -/
theorem State.flagsAre_inc8 {t : State} {v : Byte} {c : Bool} (hf : t.cpu.f = clearLowNibble (inc8 v c).f) :
    t.flagsAre ((inc8 v c).value.toNat = 0) False (v.toNat % 16 = 15) (c = true) := by
  simpa [BitVec.toNat_eq, inc8] using State.flagsAre_of_stored hf

/-- The flags of `dec8`, once they are in F (42_alu8 R307). -/
theorem State.flagsAre_dec8 {t : State} {v : Byte} {c : Bool} (hf : t.cpu.f = clearLowNibble (dec8 v c).f) :
    t.flagsAre ((dec8 v c).value.toNat = 0) True (v.toNat % 16 = 0) (c = true) := by
  simpa [BitVec.toNat_eq, dec8] using State.flagsAre_of_stored hf

theorem State.getReg_incReg (s : State) (dst : Reg8) :
    (s.incReg dst).getReg dst = (inc8 (s.getReg dst) s.cpu.flagC).value := by simp [State.incReg]

theorem State.getReg_decReg (s : State) (dst : Reg8) :
    (s.decReg dst).getReg dst = (dec8 (s.getReg dst) s.cpu.flagC).value := by simp [State.decReg]

/-- Settles O17: `inc8` or `dec8` of a register, or of the byte at HL, which is written back. -/
theorem incrementDecrementByte : Obligations.incrementDecrementByte := by
  refine ⟨fun s dst => ⟨?incReg, ?decReg⟩, fun s => ⟨?incMem, ?decMem⟩⟩
  case incReg =>
    refine ⟨encode_incReg dst, _, exec_incReg dst s, ?_, ?_, s.setReg_setF_charge_kept dst _ _ 4⟩ <;>
      rw [s.getReg_incReg]
    · exact inc8_value_toNat ..
    · exact State.flagsAre_inc8 rfl
  case decReg =>
    refine ⟨encode_decReg dst, _, exec_decReg dst s, ?_, ?_, s.setReg_setF_charge_kept dst _ _ 4⟩ <;>
      rw [s.getReg_decReg]
    · exact dec8_value_toNat ..
    · exact State.flagsAre_dec8 rfl
  case incMem =>
    exact ⟨rfl, s.incMem, _, rfl, inc8_value_toNat _ s.cpu.flagC, State.flagsAre_inc8 rfl,
      s.busWrite_setF_charge_kept s.hl _ _ 12⟩
  case decMem =>
    exact ⟨rfl, s.decMem, _, rfl, dec8_value_toNat _ s.cpu.flagC, State.flagsAre_dec8 rfl,
      s.busWrite_setF_charge_kept s.hl _ _ 12⟩

/-! ### DAA -/

/-- After an addition DAA adds 6 to each digit that overflowed, modulo 256 (42_alu8 R309). -/
theorem daa8_value_toNat_of_add (a : Byte) (h c : Bool) :
    (daa8 a false h c).value.toNat = (a.toNat + (if c = true ∨ 0x99 < a.toNat then 0x60 else 0) +
      (if h = true ∨ 9 < a.toNat % 16 then 0x06 else 0)) % 256 := by
  simp [daa8, daaHigh, daaLow, apply_ite BitVec.toNat, Nat.add_assoc]

/-- After a subtraction DAA subtracts 6 from each digit that borrowed, modulo 256 (42_alu8 R309). -/
theorem daa8_value_toNat_of_sub (a : Byte) (h c : Bool) :
    ((daa8 a true h c).value.toNat : Int) = ((a.toNat : Int) - (if c = true then 0x60 else 0) -
      (if h = true then 0x06 else 0)) % 256 := by
  cases c <;> cases h <;> simp [daa8, daaHigh, daaLow, BitVec.toNat_sub] <;> omega

/-- The flags of `daa8`, once they are in F (42_alu8 R309). -/
theorem State.flagsAre_daa8 {t : State} {a : Byte} {n h c : Bool} (hf : t.cpu.f = clearLowNibble (daa8 a n h c).f) :
    t.flagsAre ((daa8 a n h c).value.toNat = 0) (n = true) False (c = true ∨ (n = false ∧ 0x99 < a.toNat)) := by
  simpa [BitVec.toNat_eq, daa8, daaHigh] using State.flagsAre_of_stored hf

theorem State.daaOp_a (s : State) :
    s.daaOp.cpu.a = (daa8 s.cpu.a s.cpu.flagN s.cpu.flagH s.cpu.flagC).value := rfl

/-- Settles O18: `daa8` of A and the flags, after an addition and after a subtraction. -/
theorem decimalAdjust : Obligations.decimalAdjust := by
  refine fun s => ⟨rfl, s.daaOp, rfl, fun hn => ?add, fun hn => ?sub, State.flagsAre_daa8 rfl,
    s.setReg_setF_charge_kept .a _ _ 4⟩
  case add => rw [s.daaOp_a, hn]; exact daa8_value_toNat_of_add ..
  case sub => rw [s.daaOp_a, hn]; exact daa8_value_toNat_of_sub ..

/-! ### DAA on BCD -/

/-- The BCD of a two-digit number: each decimal digit in a nibble. -/
def bcd (n : Nat) : Nat := n / 10 * 16 + n % 10

/-- BCD skips 6 values for every ten, which is what DAA makes up for. -/
theorem bcd_eq_add (n : Nat) : bcd n = n + 6 * (n / 10) := by
  unfold bcd
  omega

theorem bcd_mod (n : Nat) : bcd n % 16 = n % 10 := by
  unfold bcd
  omega

theorem toNat_ofNat_bcd {n : Nat} (hn : n < 100) : (BitVec.ofNat 8 (bcd n)).toNat = bcd n := by
  rw [BitVec.toNat_ofNat, bcd]
  omega

/-- A BCD sum needs its low digit adjusted where the decimal digits carry. -/
theorem bcd_add_lowCarry (x y : Nat) :
    15 < bcd x % 16 + bcd y % 16 ∨ 9 < (bcd x + bcd y) % 256 % 16 ↔ 10 ≤ x % 10 + y % 10 := by
  rw [Nat.mod_mod_of_dvd _ (by decide), Nat.add_mod, bcd_mod, bcd_mod]
  omega

/-- A BCD sum needs its high digit adjusted where the decimal numbers carry. -/
theorem bcd_add_highCarry (x y : Nat) :
    255 < bcd x + bcd y ∨ 0x99 < (bcd x + bcd y) % 256 ↔ 100 ≤ x + y := by
  rw [bcd_eq_add, bcd_eq_add]
  by_cases hs : 255 < x + 6 * (x / 10) + (y + 6 * (y / 10))
  · simp only [hs, true_or, true_iff]
    omega
  · rw [Nat.mod_eq_of_lt (by omega)]
    omega

/-- The binary sum of two BCD bytes, with 6 added for every digit that carries, is the BCD of the decimal sum. -/
theorem bcd_add_adjusted {x y : Nat} (hx : x < 100) (hy : y < 100) :
    ((bcd x + bcd y) % 256 + (if 100 ≤ x + y then 0x60 else 0) + (if 10 ≤ x % 10 + y % 10 then 0x06 else 0)) % 256 =
      bcd ((x + y) % 100) := by
  have htens : (x + y) / 10 = x / 10 + y / 10 + (if 10 ≤ x % 10 + y % 10 then 1 else 0) := by split <;> omega
  have hmod : (x + y) % 100 = x + y - (if 100 ≤ x + y then 100 else 0) := by split <;> omega
  rw [bcd_eq_add, bcd_eq_add, bcd_eq_add, hmod]
  split_ifs at htens ⊢ <;> omega

theorem bcd_lt (x y : Nat) : bcd x < bcd y ↔ x < y := by
  unfold bcd
  omega

/-- The binary difference of two BCD bytes, less 6 for every digit that borrows, is the BCD of the decimal
difference. -/
theorem bcd_sub_adjusted {x y : Nat} (hx : x < 100) (hy : y < 100) :
    (((bcd x : Int) - bcd y) % 256 - (if x < y then 0x60 else 0) - (if x % 10 < y % 10 then 0x06 else 0)) % 256 =
      bcd ((x + 100 - y) % 100) := by
  have htens : ((x : Int) - y) / 10 = x / 10 - y / 10 - (if x % 10 < y % 10 then 1 else 0) := by split <;> omega
  have hmod : (((x + 100 - y) % 100 : Nat) : Int) = x - y + (if x < y then 100 else 0) := by split <;> omega
  rw [bcd_eq_add, bcd_eq_add, bcd_eq_add]
  push_cast [hmod]
  split_ifs at htens ⊢ <;> omega

/-- Settles O19: DAA's adjustments (O18) of the binary sum and difference (O14, O15) of BCD bytes. -/
theorem decimalSumAndDifference : Obligations.decimalSumAndDifference := by
  intro s x y hx hy ha hb
  have hax : s.cpu.a.toNat = bcd x := (congrArg BitVec.toNat ha).trans (toNat_ofNat_bcd hx)
  have hby : (s.aluOperand (.reg .b)).toNat = bcd y := (congrArg BitVec.toNat hb).trans (toNat_ofNat_bcd hy)
  constructor
  case left =>
    obtain ⟨-, t, ht, hsum, ⟨-, hn, hh, hc, -⟩, -⟩ := addWithAndWithoutCarry s (.reg .b) .add 0 (.inl ⟨rfl, rfl⟩)
    obtain ⟨-, u, hu, hadjust, -, ⟨-, -, -, hcarry, -⟩, -⟩ := decimalAdjust t
    have hn : t.cpu.flagN = false := by simpa using hn
    rw [hax, hby, Nat.add_zero] at hsum hh hc
    refine ⟨t, u, ht, hu, BitVec.eq_of_toNat_eq ?_, ?_⟩
    · rw [hadjust hn]
      simp only [hh, hc, hsum, bcd_add_lowCarry, bcd_add_highCarry, bcd_add_adjusted hx hy]
      rw [BitVec.toNat_ofNat, bcd]
      omega
    · rw [hcarry, hc, hsum, ← bcd_add_highCarry]
      simp [hn]
  case right =>
    obtain ⟨-, t, ht, hdiff, ⟨-, hn, hh, hc, -⟩, -⟩ := subtractAndCompare s (.reg .b) .sub 0 (.inl ⟨rfl, rfl⟩)
    obtain ⟨-, u, hu, -, hadjust, ⟨-, -, -, hcarry, -⟩, -⟩ := decimalAdjust t
    have hn : t.cpu.flagN = true := by simpa using hn
    rw [if_neg (by decide)] at hdiff
    simp only [hax, hby, Nat.add_zero, Nat.cast_zero, Int.sub_zero, bcd_mod, bcd_lt] at hdiff hh hc
    refine ⟨t, u, ht, hu, BitVec.eq_of_toNat_eq ?_, ?_⟩
    · have hu' := hadjust hn
      simp only [hh, hc, hdiff, bcd_sub_adjusted hx hy] at hu'
      rw [Int.ofNat_inj.mp hu', BitVec.toNat_ofNat, bcd]
      omega
    · rw [hcarry, hc]
      simp [hn]

/-! ### CPL, SCF and CCF -/

/-- Settles O20: CPL complements A; CPL, SCF and CCF build F from the Z and C they keep or change. -/
theorem complementAndCarryFlag : Obligations.complementAndCarryFlag := by
  refine fun s => ⟨⟨rfl, s.cplOp, rfl, ?cpl, ?cplFlags, s.setReg_setF_charge_kept .a _ _ 4⟩,
    ⟨rfl, s.scfOp, rfl, ?scfFlags, s.setF_charge_kept _ 4⟩,
    ⟨rfl, s.ccfOp, rfl, ?ccfFlags, s.setF_charge_kept _ 4⟩⟩
  case cpl => exact (congrArg BitVec.toNat (BitVec.xor_allOnes (x := s.cpu.a))).trans (BitVec.toNat_not ..)
  case cplFlags => simpa using State.flagsAre_of_stored (t := s.cplOp) rfl
  case scfFlags => simpa using State.flagsAre_of_stored (t := s.scfOp) rfl
  case ccfFlags => simpa using State.flagsAre_of_stored (t := s.ccfOp) rfl

end Sys2Proof.Machine

/-! ## 16-bit arithmetic (43_alu16) -/

namespace Sys2Proof.Machine

/-! ### ADD HL,rr -/

theorem exec_addHLPair (p : Pair) (s : State) : exec (.addHLPair p) s = .next (s.addHl p) := by cases p <;> rfl

theorem encode_addHLPair (p : Pair) : encode (.addHLPair p) = [0x09#8 + 16 * pairCode p] := by cases p <;> rfl

theorem State.hl_addHl (s : State) (p : Pair) : (s.addHl p).hl = (addHl16 s.hl (s.getPair p) s.cpu.flagZ).value :=
  s.cpu.getPair_setPair .hl _

theorem addHl16_value_toNat (a b : Word) (z : Bool) : (addHl16 a b z).value.toNat = (a.toNat + b.toNat) % 65536 :=
  BitVec.toNat_ofNat _ 16

/-- The flags of `addHl16`, once they are in F (43_alu16 R331). -/
theorem State.flagsAre_addHl16 {t : State} {a b : Word} {z : Bool} (hf : t.cpu.f = clearLowNibble (addHl16 a b z).f) :
    t.flagsAre (z = true) False (4095 < a.toNat % 4096 + b.toNat % 4096) (65535 < a.toNat + b.toNat) := by
  simpa using State.flagsAre_of_stored hf

/-- `ADD HL,rr` writes HL and F alone (43_alu16 R331). -/
theorem State.addHl_kept (s : State) (p : Pair) :
    s.regsKept (s.addHl p) [.h, .l] ∧ s.spPcKept (s.addHl p) ∧ s.registerFrame (s.addHl p) 8 := by
  refine ⟨fun r hr => ?regs, ⟨rfl, rfl⟩, s.registerFrame_setPair_setF_charge .hl _ _ 8⟩
  case regs => simpa [State.addHl] using s.regsKept_setPair_hl _ r hr

/-- Settles O21: `addHl16` of HL and the pair, both read before HL is written. -/
theorem addPairToHl : Obligations.addPairToHl := by
  refine fun s p => ⟨encode_addHLPair p, _, exec_addHLPair p s, ?sum, State.flagsAre_addHl16 rfl, s.addHl_kept p⟩
  case sum => rw [s.hl_addHl]; exact addHl16_value_toNat ..

/-! ### INC rr and DEC rr -/

theorem exec_incPair (p : Pair) (s : State) : exec (.incPair p) s = .next (s.incPair p) := by cases p <;> rfl

theorem encode_incPair (p : Pair) : encode (.incPair p) = [0x03#8 + 16 * pairCode p] := by cases p <;> rfl

theorem exec_decPair (p : Pair) (s : State) : exec (.decPair p) s = .next (s.decPair p) := by cases p <;> rfl

theorem encode_decPair (p : Pair) : encode (.decPair p) = [0x0B#8 + 16 * pairCode p] := by cases p <;> rfl

/-- A write of a pair and a cost keep the other pairs, A, F, PC and all outside them. -/
theorem State.setPair_charge_kept (s : State) (p : Pair) (v : Word) (c : Nat) :
    (∀ q, q ≠ p → ((s.setPair p v).charge c).getPair q = s.getPair q) ∧ ((s.setPair p v).charge c).cpu.a = s.cpu.a ∧
      ((s.setPair p v).charge c).cpu.f = s.cpu.f ∧ ((s.setPair p v).charge c).cpu.pc = s.cpu.pc ∧
      s.registerFrame ((s.setPair p v).charge c) c := by
  -- apart from the cost it is the load of `v` into the pair
  obtain ⟨-, hothers, ha, hf, hpc, -⟩ := s.ldPair_loads p v
  exact ⟨hothers, ha, hf, hpc, s.registerFrame_setPair_charge p v c⟩

theorem State.getPair_incPair (s : State) (p : Pair) : (s.incPair p).getPair p = s.getPair p + 1 :=
  s.cpu.getPair_setPair p _

theorem State.getPair_decPair (s : State) (p : Pair) : (s.decPair p).getPair p = s.getPair p - 1 :=
  s.cpu.getPair_setPair p _

/-- Settles O22: each writes one pair with its word plus or minus 1, and never F. -/
theorem incrementDecrementPair : Obligations.incrementDecrementPair := by
  refine fun s p => ⟨⟨encode_incPair p, _, exec_incPair p s, ?inc, s.setPair_charge_kept p _ 8⟩,
    ⟨encode_decPair p, _, exec_decPair p s, ?dec, s.setPair_charge_kept p _ 8⟩⟩
  case inc => rw [s.getPair_incPair]; exact BitVec.toNat_add ..
  case dec => rw [s.getPair_decPair, Nat.add_comm]; exact BitVec.toNat_sub ..

end Sys2Proof.Machine

/-! ## Rotates, shifts and SWAP (44_rotate_shift) -/

namespace Sys2Proof.Machine

/-! ### The arithmetic of a rotate or shift -/

/-- OR adds where the low operand fits below the bits of the high one. -/
theorem toNat_or_of_lt_two_pow {x y : Byte} {i n : Nat} (hx : x.toNat = 2 ^ i * n) (hy : y.toNat < 2 ^ i) :
    (x ||| y).toNat = 2 ^ i * n + y.toNat := by
  rw [BitVec.toNat_or, hx, Nat.two_pow_add_eq_or_of_lt hy]

@[simp] theorem toNat_bitByte (b : Bool) : (bitByte b).toNat = b.toNat := by cases b <;> rfl

/-- Bit 7 of a byte as a number. -/
theorem toNat_getLsbD_seven (v : Byte) : (v.getLsbD 7).toNat = v.toNat / 128 := by
  have hbit : (v.getLsbD 7).toNat = v.toNat / 128 % 2 := Nat.toNat_testBit v.toNat 7
  omega

/-- Bit 0 of a byte as a number. -/
theorem toNat_getLsbD_zero (v : Byte) : (v.getLsbD 0).toNat = v.toNat % 2 := by
  have hbit : (v.getLsbD 0).toNat = v.toNat / 1 % 2 := Nat.toNat_testBit v.toNat 0
  rwa [Nat.div_one] at hbit

theorem toNat_shiftLeft_one (v : Byte) : (v <<< 1).toNat = 2 * v.toNat % 256 := by
  rw [BitVec.toNat_shiftLeft, Nat.shiftLeft_eq, Nat.mul_comm]

theorem toNat_shiftRight_one (v : Byte) : (v >>> 1).toNat = v.toNat / 2 := by
  rw [BitVec.toNat_ushiftRight, Nat.shiftRight_eq_div_pow]

/-- A left shift with `b` shifted into bit 0 (44_rotate_shift R345, R349). -/
theorem toNat_shiftLeft_or_bit (v : Byte) {b : Bool} {n : Nat} (hb : b.toNat = n) :
    ((v <<< 1) ||| bitByte b).toNat = (2 * v.toNat + n) % 256 := by
  have hlow : (bitByte b).toNat < 2 ^ 1 := by rw [toNat_bitByte]; exact b.toNat_lt
  have hhigh : (v <<< 1).toNat = 2 ^ 1 * (v.toNat % 128) := by rw [toNat_shiftLeft_one]; omega
  rw [toNat_or_of_lt_two_pow hhigh hlow]
  rw [toNat_bitByte, hb] at hlow ⊢
  omega

/-- A right shift with `n` put into bit 7 (44_rotate_shift R347, R351, R355). -/
theorem toNat_shiftRight_or_high (v : Byte) {x : Byte} {n : Nat} (hx : x.toNat = 2 ^ 7 * n) :
    ((v >>> 1) ||| x).toNat = v.toNat / 2 + 128 * n := by
  have hlow : (v >>> 1).toNat < 2 ^ 7 := by rw [toNat_shiftRight_one]; omega
  rw [BitVec.or_comm, toNat_or_of_lt_two_pow hx hlow, toNat_shiftRight_one]
  omega

theorem toNat_bitByte_shiftLeft_seven {b : Bool} {n : Nat} (hb : b.toNat = n) :
    (bitByte b <<< 7).toNat = 2 ^ 7 * n := by
  subst hb
  cases b <;> rfl

theorem toNat_and_bit_seven (v : Byte) : (v &&& 0x80#8).toNat = 2 ^ 7 * (v.toNat / 128) := by
  rw [← toNat_getLsbD_seven, Nat.mul_comm]
  exact Nat.and_two_pow v.toNat 7

/-- SWAP exchanges the nibbles (44_rotate_shift R357). -/
theorem toNat_swap (v : Byte) :
    (((v &&& 0x0F#8) <<< 4) ||| (v >>> 4)).toNat = 16 * (v.toNat % 16) + v.toNat / 16 := by
  have hmask : (v &&& 0x0F#8).toNat = v.toNat % 16 := Nat.and_two_pow_sub_one_eq_mod v.toNat 4
  have hhigh : ((v &&& 0x0F#8) <<< 4).toNat = 2 ^ 4 * (v.toNat % 16) := by
    rw [BitVec.toNat_shiftLeft, hmask, Nat.shiftLeft_eq]
    omega
  have hlow : (v >>> 4).toNat = v.toNat / 16 := by rw [BitVec.toNat_ushiftRight, Nat.shiftRight_eq_div_pow]
  rw [toNat_or_of_lt_two_pow hhigh (by omega), hlow]
  omega

/-- The value of a rotate or shift in the spec's arithmetic (44_rotate_shift section 3). -/
theorem shiftValue_toNat (o : ShiftOp) (v : Byte) (c : Bool) : (shiftValue o v c).toNat = shiftResult o v c.toNat := by
  cases o with
  | rlc => exact toNat_shiftLeft_or_bit v (toNat_getLsbD_seven v)
  | rrc => exact toNat_shiftRight_or_high v (toNat_bitByte_shiftLeft_seven (toNat_getLsbD_zero v))
  | rl => exact toNat_shiftLeft_or_bit v rfl
  | rr => exact toNat_shiftRight_or_high v (toNat_bitByte_shiftLeft_seven rfl)
  | sla => exact toNat_shiftLeft_one v
  | sra => exact toNat_shiftRight_or_high v (toNat_and_bit_seven v)
  | swap => exact toNat_swap v
  | srl => exact toNat_shiftRight_one v

theorem shiftCarry_iff (o : ShiftOp) (v : Byte) : shiftCarry o v = true ↔ shiftedOut o v := by
  cases o with
  | rlc | rl | sla =>
    change v.getLsbD 7 = true ↔ v.toNat / 128 = 1
    rw [← toNat_getLsbD_seven, Bool.toNat_eq_one]
  | rrc | rr | sra | srl =>
    change v.getLsbD 0 = true ↔ v.toNat % 2 = 1
    rw [← toNat_getLsbD_zero, Bool.toNat_eq_one]
  | swap => exact Bool.false_eq_true.to_iff

/-- The flags of `shift8`, once they are in F (44_rotate_shift R340). -/
theorem State.flagsAre_shift8 {t : State} {o : ShiftOp} {v : Byte} {c : Bool}
    (hf : t.cpu.f = clearLowNibble (shift8 o v c).f) :
    t.flagsAre ((shift8 o v c).value.toNat = 0) False False (shiftedOut o v) := by
  simpa [shiftCarry_iff, BitVec.toNat_eq, shift8] using State.flagsAre_of_stored hf

/-- The flags of `rotateA8`, once they are in F (44_rotate_shift R340). -/
theorem State.flagsAre_rotateA8 {t : State} {o : ShiftOp} {v : Byte} {c : Bool}
    (hf : t.cpu.f = clearLowNibble (rotateA8 o v c).f) : t.flagsAre False False False (shiftedOut o v) := by
  simpa [shiftCarry_iff] using State.flagsAre_of_stored hf

/-! ### RLCA, RRCA, RLA and RRA -/

/-- Settles O23: all four are `rotateA`. -/
theorem accumulatorRotates : Obligations.accumulatorRotates := by
  intro s i o opc hi
  obtain ⟨hencode, hexec⟩ : encode i = [opc] ∧ exec i s = .next (s.rotateA o) := by
    obtain ⟨rfl, rfl, rfl⟩ | ⟨rfl, rfl, rfl⟩ | ⟨rfl, rfl, rfl⟩ | ⟨rfl, rfl, rfl⟩ := hi <;> exact ⟨rfl, rfl⟩
  exact ⟨hencode, s.rotateA o, hexec, shiftValue_toNat o s.cpu.a s.cpu.flagC, State.flagsAre_rotateA8 rfl,
    s.setReg_setF_charge_kept .a _ _ 4⟩

/-! ### The CB rotates, shifts and SWAP -/

theorem exec_shiftReg (o : ShiftOp) (dst : Reg8) (s : State) :
    exec (.shiftReg o dst) s = .next (s.shiftReg o dst) := by
  cases o <;> cases dst <;> rfl

theorem encode_shiftReg (o : ShiftOp) (dst : Reg8) :
    encode (.shiftReg o dst) = [0xCB#8, 8 * shiftCode o + regCode dst] := by
  cases o <;> cases dst <;> rfl

theorem exec_shiftMem (o : ShiftOp) (s : State) : exec (.shiftMem o) s = .next (s.shiftMem o) := by cases o <;> rfl

theorem encode_shiftMem (o : ShiftOp) : encode (.shiftMem o) = [0xCB#8, 8 * shiftCode o + 6] := by cases o <;> rfl

theorem State.getReg_shiftReg (s : State) (o : ShiftOp) (dst : Reg8) :
    (s.shiftReg o dst).getReg dst = (shift8 o (s.getReg dst) s.cpu.flagC).value := by simp [State.shiftReg]

/-- Settles O24: `shift8` of a register, or of the byte at HL, which is written back. -/
theorem shiftRegisterAndMemory : Obligations.shiftRegisterAndMemory := by
  refine ⟨fun s o dst => ?register, fun s o => ?memory⟩
  case register =>
    refine ⟨encode_shiftReg o dst, _, exec_shiftReg o dst s, ?_, ?_, s.setReg_setF_charge_kept dst _ _ 8⟩ <;>
      rw [s.getReg_shiftReg]
    · exact shiftValue_toNat ..
    · exact State.flagsAre_shift8 rfl
  case memory =>
    exact ⟨encode_shiftMem o, s.shiftMem o, _, exec_shiftMem o s, shiftValue_toNat o _ s.cpu.flagC,
      State.flagsAre_shift8 rfl, s.busWrite_setF_charge_kept s.hl _ _ 16⟩

end Sys2Proof.Machine

/-! ## Bit operations (45_bit) -/

namespace Sys2Proof.Machine

/-! ### The bits of RES and SET -/

/-- The mask of bit `b` holds that bit alone. -/
theorem getLsbD_bitMask (b : Fin 8) (k : Nat) : (bitMask b).getLsbD k = decide (b.val = k) := by
  have htwoPow := BitVec.getLsbD_twoPow (w := 8) b.val k
  rwa [decide_eq_true b.isLt, Bool.true_and] at htwoPow

/-- RES clears its bit and keeps the others (45_bit R373). -/
theorem getLsbD_resetBit (b : Fin 8) (v : Byte) {k : Nat} (hk : k < 8) :
    (resetBit b v).getLsbD k = if k = b.val then false else v.getLsbD k := by
  rw [resetBit, BitVec.getLsbD_and, BitVec.getLsbD_not, getLsbD_bitMask]
  split
  case isTrue h => simp [h]
  case isFalse h => simp [hk, Ne.symm h]

/-- SET sets its bit and keeps the others (45_bit R375). -/
theorem getLsbD_setBit (b : Fin 8) (v : Byte) (k : Nat) :
    (setBit b v).getLsbD k = if k = b.val then true else v.getLsbD k := by
  rw [setBit, BitVec.getLsbD_or, getLsbD_bitMask]
  split
  case isTrue h => simp [h]
  case isFalse h => simp [Ne.symm h]

/-! ### BIT -/

theorem exec_bitReg (b : Fin 8) (r : Reg8) (s : State) : exec (.bitReg b r) s = .next (s.bitReg b r) := by
  fin_cases b <;> cases r <;> rfl

theorem encode_bitReg (b : Fin 8) (r : Reg8) :
    encode (.bitReg b r) = [0xCB#8, 0x40#8 + 8 * BitVec.ofNat 8 b.val + regCode r] := by
  fin_cases b <;> cases r <;> rfl

theorem exec_bitMem (b : Fin 8) (s : State) : exec (.bitMem b) s = .next (s.bitMem b) := by fin_cases b <;> rfl

theorem encode_bitMem (b : Fin 8) : encode (.bitMem b) = [0xCB#8, 0x46#8 + 8 * BitVec.ofNat 8 b.val] := by
  fin_cases b <;> rfl

/-- The flags of `bitFlags`, once they are in F (45_bit R371). -/
theorem State.flagsAre_bitFlags {t : State} {b : Fin 8} {v : Byte} {c : Bool}
    (hf : t.cpu.f = clearLowNibble (bitFlags b v c)) : t.flagsAre (v.getLsbD b.val = false) False True (c = true) := by
  simpa using State.flagsAre_of_stored hf

/-- Settles O25: BIT of a register and of the byte at HL writes `bitFlags` of the operand to F, and nothing else. -/
theorem testBit : Obligations.testBit := fun s b =>
  ⟨fun r => ⟨encode_bitReg b r, _, exec_bitReg b r s, State.flagsAre_bitFlags rfl, s.setF_charge_kept _ 8⟩,
    encode_bitMem b, _, exec_bitMem b s, State.flagsAre_bitFlags rfl, s.setF_charge_kept _ 12⟩

/-! ### RES and SET -/

theorem exec_resReg (b : Fin 8) (dst : Reg8) (s : State) :
    exec (.resReg b dst) s = .next (s.resReg b dst) := by
  fin_cases b <;> cases dst <;> rfl

theorem encode_resReg (b : Fin 8) (dst : Reg8) :
    encode (.resReg b dst) = [0xCB#8, 0x80#8 + 8 * BitVec.ofNat 8 b.val + regCode dst] := by
  fin_cases b <;> cases dst <;> rfl

theorem exec_setReg (b : Fin 8) (dst : Reg8) (s : State) :
    exec (.setReg b dst) s = .next (s.setBitReg b dst) := by
  fin_cases b <;> cases dst <;> rfl

theorem encode_setReg (b : Fin 8) (dst : Reg8) :
    encode (.setReg b dst) = [0xCB#8, 0xC0#8 + 8 * BitVec.ofNat 8 b.val + regCode dst] := by
  fin_cases b <;> cases dst <;> rfl

theorem exec_resMem (b : Fin 8) (s : State) : exec (.resMem b) s = .next (s.resMem b) := by fin_cases b <;> rfl

theorem encode_resMem (b : Fin 8) : encode (.resMem b) = [0xCB#8, 0x86#8 + 8 * BitVec.ofNat 8 b.val] := by
  fin_cases b <;> rfl

theorem exec_setMem (b : Fin 8) (s : State) : exec (.setMem b) s = .next (s.setBitMem b) := by fin_cases b <;> rfl

theorem encode_setMem (b : Fin 8) : encode (.setMem b) = [0xCB#8, 0xC6#8 + 8 * BitVec.ofNat 8 b.val] := by
  fin_cases b <;> rfl

/-- A bus write and a cost keep the registers, F, SP and PC, and have the frame of a store. -/
theorem State.busWrite_charge_kept (s : State) (a : Word) (v : Byte) (c : Nat) :
    s.regsKept ((s.busWrite a v).charge c) [] ∧ s.flagsSpPcKept ((s.busWrite a v).charge c) ∧
      s.storeFrame ((s.busWrite a v).charge c) a v c :=
  ⟨fun r _ => (State.getReg_charge _ c r).trans (s.busWrite_getReg a v r),
    ⟨s.busWrite_f a v, s.busWrite_sp a v, s.busWrite_pc a v⟩, (State.registerFrame_charge _ c).storeFrame⟩

/-- Settles O26: `resetBit` or `setBit` of a register, which is loaded with the result, or of the byte at HL, which is
written back. -/
theorem resetAndSetBit : Obligations.resetAndSetBit := by
  refine ⟨fun s b dst => ⟨?resReg, ?setReg⟩, fun s b => ⟨?resMem, ?setMem⟩⟩
  case resReg =>
    obtain ⟨hvalue, hkept⟩ := s.ldReg_loads dst (resetBit b (s.getReg dst)) 8
    exact ⟨encode_resReg b dst, s.resReg b dst, exec_resReg b dst s,
      fun k hk => (congrArg (BitVec.getLsbD · k) hvalue).trans (getLsbD_resetBit b _ hk), hkept⟩
  case setReg =>
    obtain ⟨hvalue, hkept⟩ := s.ldReg_loads dst (setBit b (s.getReg dst)) 8
    exact ⟨encode_setReg b dst, s.setBitReg b dst, exec_setReg b dst s,
      fun k _ => (congrArg (BitVec.getLsbD · k) hvalue).trans (getLsbD_setBit b _ k), hkept⟩
  case resMem =>
    exact ⟨encode_resMem b, s.resMem b, _, exec_resMem b s, fun _ hk => getLsbD_resetBit b _ hk,
      s.busWrite_charge_kept s.hl _ 16⟩
  case setMem =>
    exact ⟨encode_setMem b, s.setBitMem b, _, exec_setMem b s, fun k _ => getLsbD_setBit b _ k,
      s.busWrite_charge_kept s.hl _ 16⟩

end Sys2Proof.Machine

/-! ## Control transfers (46_control) -/

namespace Sys2Proof.Machine

/-! ### Conditions, and the program counter -/

/-- The model's condition test is the one on the bits of F (30_encoding R185). -/
theorem State.cond_iff_condHolds (s : State) (cc : Cond) : s.cond cc = true ↔ s.condHolds cc := by
  cases cc with
  | z | c => exact Iff.rfl
  | nz | nc => exact iff_of_eq (Bool.not_eq_true' _)

/-- A branch on a condition is taken exactly if the condition holds (46_control R380). -/
theorem State.branch_cases (s : State) (cc : Cond) {r : Result} {u v : State}
    (hr : r = .next (if s.cond cc then u else v)) :
    (s.condHolds cc ∧ r = .next u) ∨ (¬s.condHolds cc ∧ r = .next v) := by
  split at hr
  case isTrue h => exact .inl ⟨(s.cond_iff_condHolds cc).mp h, hr⟩
  case isFalse h => exact .inr ⟨mt (s.cond_iff_condHolds cc).mpr h, hr⟩

/-- A write of PC has the frame of a register update. -/
theorem State.registerFrame_setPc (s : State) (v : Word) : s.registerFrame (s.setPc v) s.cpu.cost :=
  State.registerFrame_of_registersOnly ⟨rfl, rfl, rfl, rfl, rfl, rfl, rfl, id⟩

@[simp] theorem State.getReg_setPc (s : State) (v : Word) (r : Reg8) : (s.setPc v).getReg r = s.getReg r := by
  cases r <;> rfl

/-- A write of PC and a cost have the frame of a register update. -/
theorem State.registerFrame_setPc_charge (s : State) (v : Word) (c : Nat) :
    s.registerFrame ((s.setPc v).charge c) c :=
  (s.registerFrame_setPc v).trans (State.registerFrame_charge _ c)

/-! ### JP and JR -/

/-- A jump writes PC alone (46_control R381, R383, R384). -/
theorem State.jump_kept (s : State) (target : Word) (c : Nat) :
    s.regsKept (s.jump target c) [] ∧ (s.jump target c).cpu.f = s.cpu.f ∧ (s.jump target c).cpu.sp = s.cpu.sp ∧
      s.registerFrame (s.jump target c) c :=
  ⟨fun r _ => by simp [State.jump], rfl, rfl, s.registerFrame_setPc_charge target c⟩

theorem exec_jpCond (cc : Cond) (nn : Word) (s : State) :
    (s.condHolds cc ∧ exec (.jpCond cc nn) s = .next (s.jump nn 16)) ∨
      (¬s.condHolds cc ∧ exec (.jpCond cc nn) s = .next (s.charge 12)) :=
  s.branch_cases cc (by cases cc <;> rfl)

theorem encode_jpCond (cc : Cond) (nn : Word) :
    encode (.jpCond cc nn) = [0xC2#8 + 8 * condCode cc, loByte nn, hiByte nn] := by
  cases cc <;> rfl

theorem exec_jrCond (cc : Cond) (e : Byte) (s : State) :
    (s.condHolds cc ∧ exec (.jrCond cc e) s = .next (s.jump (s.cpu.pc + sext16 e) 12)) ∨
      (¬s.condHolds cc ∧ exec (.jrCond cc e) s = .next (s.charge 8)) :=
  s.branch_cases cc (by cases cc <;> rfl)

theorem encode_jrCond (cc : Cond) (e : Byte) : encode (.jrCond cc e) = [0x20#8 + 8 * condCode cc, e] := by
  cases cc <;> rfl

/-- Settles O27: every form is one jump, or, where its condition fails, the cost alone. -/
theorem jumpsAndConditionalJumps : Obligations.jumpsAndConditionalJumps := by
  refine ⟨fun s => ⟨fun nn => ⟨rfl, _, rfl, rfl, s.jump_kept nn 16⟩, ⟨rfl, _, rfl, rfl, s.jump_kept s.hl 4⟩,
    fun e => ⟨rfl, _, rfl, add_sext16_toNat s.cpu.pc e, s.jump_kept _ 12⟩⟩,
    fun s cc => ⟨fun nn => ?jp, fun e => ?jr⟩⟩
  case jp =>
    refine ⟨encode_jpCond cc nn, ?_⟩
    obtain ⟨hc, ht⟩ | ⟨hc, ht⟩ := exec_jpCond cc nn s
    · obtain ⟨hregs, hf, hsp, hframe⟩ := s.jump_kept nn 16
      exact ⟨_, ht, hregs, hf, hsp, fun _ => ⟨rfl, hframe⟩, absurd hc⟩
    · exact ⟨_, ht, fun r _ => s.getReg_charge 12 r, rfl, rfl, (absurd · hc),
        fun _ => ⟨rfl, s.registerFrame_charge 12⟩⟩
  case jr =>
    refine ⟨encode_jrCond cc e, ?_⟩
    obtain ⟨hc, ht⟩ | ⟨hc, ht⟩ := exec_jrCond cc e s
    · obtain ⟨hregs, hf, hsp, hframe⟩ := s.jump_kept (s.cpu.pc + sext16 e) 12
      exact ⟨_, ht, hregs, hf, hsp, fun _ => ⟨add_sext16_toNat s.cpu.pc e, hframe⟩, absurd hc⟩
    · exact ⟨_, ht, fun r _ => s.getReg_charge 8 r, rfl, rfl, (absurd · hc),
        fun _ => ⟨rfl, s.registerFrame_charge 8⟩⟩

/-! ### CALL, RST and RET -/

/-- A call stores PC's two bytes below SP, moves SP below them and jumps (46_control R386, R391). -/
theorem State.call_stores (s : State) (target : Word) (c : Nat) :
    (s.call target c).cpu.pc = target ∧ (s.call target c).cpu.sp = s.cpu.sp - 2 ∧ s.regsKept (s.call target c) [] ∧
      (s.call target c).cpu.f = s.cpu.f ∧
      s.twoStoreFrame (s.call target c) (s.cpu.sp - 1) (hiByte s.cpu.pc) (s.cpu.sp - 2) (loByte s.cpu.pc) c := by
  unfold State.call
  rw [State.push16_eq]
  refine ⟨rfl, rfl, fun r hr => ?regs, ?f, ?frame⟩
  case regs => simp [State.regsKept_setPair_sp _ _ r hr, State.busWrite_getReg]
  case f => simp
  case frame => exact ((State.registerFrame_setPair _ _ _).trans (State.registerFrame_setPc_charge _ _ _)).twoStoreFrame

@[simp] theorem State.getReg_dropStack (s : State) (r : Reg8) : s.dropStack.getReg r = s.getReg r := by
  cases r <;> rfl

/-- A return reads PC from the stack and raises SP by 2 (46_control R388). -/
theorem State.ret_loads (s : State) (c : Nat) :
    (s.ret c).cpu.pc = join (s.busRead (s.cpu.sp + 1)) (s.busRead s.cpu.sp) ∧ (s.ret c).cpu.sp = s.cpu.sp + 2 ∧
      s.regsKept (s.ret c) [] ∧ (s.ret c).cpu.f = s.cpu.f ∧ s.registerFrame (s.ret c) c :=
  ⟨rfl, rfl, fun r _ => by simp [State.ret], rfl,
    (s.registerFrame_setPair .sp _).trans (State.registerFrame_setPc_charge _ _ c)⟩

theorem exec_rst (k : Fin 8) (s : State) : exec (.rst k) s = .next (s.call (BitVec.ofNat 16 (8 * k.val)) 16) := by
  fin_cases k <;> rfl

theorem encode_rst (k : Fin 8) : encode (.rst k) = [0xC7#8 + 8 * BitVec.ofNat 8 k.val] := by
  fin_cases k <;> rfl

/-- The target of a restart, as a number (46_control R391). -/
theorem toNat_rstTarget (k : Fin 8) : (BitVec.ofNat 16 (8 * k.val)).toNat = 8 * k.val :=
  (BitVec.toNat_ofNat ..).trans (Nat.mod_eq_of_lt (by omega))

theorem exec_callCond (cc : Cond) (nn : Word) (s : State) :
    (s.condHolds cc ∧ exec (.callCond cc nn) s = .next (s.call nn 24)) ∨
      (¬s.condHolds cc ∧ exec (.callCond cc nn) s = .next (s.charge 12)) :=
  s.branch_cases cc (by cases cc <;> rfl)

theorem encode_callCond (cc : Cond) (nn : Word) :
    encode (.callCond cc nn) = [0xC4#8 + 8 * condCode cc, loByte nn, hiByte nn] := by
  cases cc <;> rfl

theorem exec_retCond (cc : Cond) (s : State) :
    (s.condHolds cc ∧ exec (.retCond cc) s = .next (s.ret 20)) ∨
      (¬s.condHolds cc ∧ exec (.retCond cc) s = .next (s.charge 8)) :=
  s.branch_cases cc (by cases cc <;> rfl)

theorem encode_retCond (cc : Cond) : encode (.retCond cc) = [0xC0#8 + 8 * condCode cc] := by
  cases cc <;> rfl

/-- Settles O28: a call or return as the unconditional one, or, where its condition fails, the cost alone. -/
theorem callsRestartsAndConditionalReturn : Obligations.callsRestartsAndConditionalReturn := by
  refine ⟨fun s => ⟨fun nn => ⟨rfl, _, rfl, s.call_stores nn 24⟩, fun k => ?rst⟩,
    fun s cc => ⟨fun nn => ?callCond, ?retCond⟩⟩
  case rst =>
    obtain ⟨hpc, hkept⟩ := s.call_stores (BitVec.ofNat 16 (8 * k.val)) 16
    exact ⟨encode_rst k, _, exec_rst k s, (congrArg BitVec.toNat hpc).trans (toNat_rstTarget k), hkept⟩
  case callCond =>
    refine ⟨encode_callCond cc nn, ?_⟩
    obtain ⟨hc, ht⟩ | ⟨hc, ht⟩ := exec_callCond cc nn s
    · obtain ⟨hpc, hsp, hregs, hf, hframe⟩ := s.call_stores nn 24
      exact ⟨_, ht, hregs, hf, fun _ => ⟨hpc, hsp, hframe⟩, absurd hc⟩
    · exact ⟨_, ht, fun r _ => s.getReg_charge 12 r, rfl, (absurd · hc),
        fun _ => ⟨⟨rfl, rfl⟩, s.registerFrame_charge 12⟩⟩
  case retCond =>
    refine ⟨encode_retCond cc, ?_⟩
    obtain ⟨hc, ht⟩ | ⟨hc, ht⟩ := exec_retCond cc s
    · obtain ⟨hpc, hsp, hregs, hf, hframe⟩ := s.ret_loads 20
      exact ⟨_, ht, hregs, hf, fun _ => ⟨hpc, hsp, hframe⟩, absurd hc⟩
    · exact ⟨_, ht, fun r _ => s.getReg_charge 8 r, rfl, (absurd · hc),
        fun _ => ⟨⟨rfl, rfl⟩, s.registerFrame_charge 8⟩⟩

/-! ### RETI -/

/-- `RETI` is `RET` and then the two writes of the interrupt enable state (46_control R390). -/
theorem State.retiOp_eq (s : State) : s.retiOp = { s.ret 16 with cpu.ime := true, cpu.imePending := false } := rfl

/-- An update of IME and the EI delay leaves the 8-bit registers and every byte of the address space. -/
theorem State.setIme_kept (s : State) (i p : Bool) :
    s.regsKept { s with cpu.ime := i, cpu.imePending := p } [] ∧
      s.bytesKept { s with cpu.ime := i, cpu.imePending := p } :=
  ⟨fun r _ => by cases r <;> rfl, s.busRead_cpu _ rfl rfl⟩

/-- Settles O29: RETI does what RET does, and after it sets IME and cancels the EI delay. -/
theorem returns : Obligations.returns := by
  refine fun s => ⟨⟨rfl, _, rfl, s.ret_loads 16⟩, rfl, s.retiOp, rfl, ?_⟩
  obtain ⟨hpc, hsp, hregs, hf, hcost, ⟨-, -, hrun, hbug, hlocked, hdouble, hprep⟩, -, hbytes⟩ := s.ret_loads 16
  obtain ⟨himeRegs, himeBytes⟩ := (s.ret 16).setIme_kept true false
  rw [s.retiOp_eq]
  exact ⟨hpc, hsp, fun r hr => (himeRegs r hr).trans (hregs r hr), hf, rfl, rfl, hcost, hrun, hbug, hlocked, hdouble,
    hprep, rfl, fun a => (himeBytes a).trans (hbytes a)⟩

end Sys2Proof.Machine

/-! ## The system instructions (47_system) -/

namespace Sys2Proof.Machine

/-- Sub-opcode by sub-opcode, a CB instruction does what the fields of its sub-opcode say (30_encoding R187). -/
theorem exec_cbInstr (c : Byte) (s : State) : exec (cbInstr c) s = .next (s.cbOp c) := by
  obtain ⟨k, hk, rfl⟩ := byte_eq_ofNat c
  interval_cases k <;> rfl

/-- Settles O7: both run the sub-opcode by its fields. -/
theorem prefixRunsCbInstruction : Obligations.prefixRunsCbInstruction := by
  intro s c
  obtain ⟨hwf, henc⟩ := cbInstr_wellFormed_and_encode c
  have hdec := decodeOfEncode (cbInstr c) [] hwf
  rw [henc] at hdec
  exact ⟨hdec, s.cbOp c, rfl, exec_cbInstr c s⟩

/-- Settles O30: each is one update of the CPU. -/
theorem nopDisableEnable : Obligations.nopDisableEnable :=
  fun _ => ⟨⟨rfl, rfl⟩, ⟨rfl, rfl⟩, rfl, rfl⟩

/-- Settles O31, by the two tests of HALT. -/
theorem haltInstruction : Obligations.haltInstruction := by
  refine fun s => ⟨rfl, fun hp => ?halts, fun hp hi => ?nothing, fun hp hi => ?bug⟩ <;>
    refine congrArg Host.Outcome.next ?_
  case halts => exact if_pos hp
  case nothing => exact (if_neg hp).trans (if_pos hi)
  case bug => exact (if_neg hp).trans (if_neg (by simp [hi]))

/-- Settles O33, opcode by opcode. -/
theorem illegalOpcodesLock : Obligations.illegalOpcodesLock := by
  intro s i o h
  simp only [List.mem_cons, Prod.mk.injEq, List.not_mem_nil, or_false] at h
  rcases h with ⟨rfl, rfl⟩ | ⟨rfl, rfl⟩ | ⟨rfl, rfl⟩ | ⟨rfl, rfl⟩ | ⟨rfl, rfl⟩ | ⟨rfl, rfl⟩ | ⟨rfl, rfl⟩ | ⟨rfl, rfl⟩ |
    ⟨rfl, rfl⟩ | ⟨rfl, rfl⟩ | ⟨rfl, rfl⟩ <;> exact ⟨rfl, rfl⟩

/-! ### STOP and the divider -/

/-- The increment of TIMA leaves the divider, TMA and TAC alone (61_timer R486). -/
theorem Timer.incTima_kept (t : Timer) : t.incTima.div = t.div ∧ t.incTima.tma = t.tma ∧ t.incTima.tac = t.tac := by
  unfold Timer.incTima
  split <;> exact ⟨rfl, rfl, rfl⟩

theorem Timer.fallingEdge_kept (t : Timer) (old : Bool) :
    (t.fallingEdge old).div = t.div ∧ (t.fallingEdge old).tma = t.tma ∧ (t.fallingEdge old).tac = t.tac := by
  unfold Timer.fallingEdge
  split
  exacts [t.incTima_kept, ⟨rfl, rfl, rfl⟩]

/-- TIMA counts exactly if the timer input falls, and arms the reload exactly if it overflows (61_timer R485 to R487). -/
theorem Timer.fallingEdge_counts (t : Timer) (old : Bool) :
    (¬(old = true ∧ t.input = false) →
      (t.fallingEdge old).tima = t.tima ∧ (t.fallingEdge old).reloadDelay = t.reloadDelay) ∧
    (old = true ∧ t.input = false → t.tima ≠ 0xFF#8 →
      (t.fallingEdge old).tima = t.tima + 1 ∧ (t.fallingEdge old).reloadDelay = t.reloadDelay) ∧
    (old = true ∧ t.input = false → t.tima = 0xFF#8 →
      (t.fallingEdge old).tima = 0#8 ∧ (t.fallingEdge old).reloadDelay = 4) := by
  simp only [Timer.fallingEdge, Bool.and_eq_true, Bool.not_eq_true']
  refine ⟨fun hstays => ?stays, fun hfalls hne => ?counts, fun hfalls hmax => ?overflows⟩
  case stays => simp [hstays]
  case counts => simp [hfalls, Timer.incTima, hne]
  case overflows => simp [hfalls, Timer.incTima, hmax]

/-- A divider of 0 has no bit set, so the timer input is 0 (61_timer R485). -/
theorem Timer.input_of_div_zero {t : Timer} (h : t.div = 0#16) : t.input = false := by
  simp [Timer.input, h]

theorem State.stopOp_timer_cost (s : State) : s.stopOp.timer = s.timer.resetDivider ∧ s.stopOp.cpu.cost = 4 := by
  unfold State.stopOp
  split <;> exact ⟨rfl, rfl⟩

/-- Settles O32: the two branches of STOP, each after a reset of the divider, with which the timer input is 0. -/
theorem stopInstruction : Obligations.stopInstruction := by
  intro s x
  obtain ⟨htimer, hcost⟩ := s.stopOp_timer_cost
  obtain ⟨hdiv, htma, htac⟩ := Timer.fallingEdge_kept { s.timer with div := 0 } s.timer.input
  obtain ⟨hstays, hcounts, hoverflows⟩ := Timer.fallingEdge_counts { s.timer with div := 0 } s.timer.input
  have hzero : Timer.input { s.timer with div := 0 } = false := Timer.input_of_div_zero rfl
  refine ⟨rfl, s.stopOp, rfl, hcost, ?_⟩
  rw [htimer]
  exact ⟨hdiv, htma, htac, fun hlow => hstays (by simp [hlow]), fun hhigh => hcounts ⟨hhigh, hzero⟩,
    fun hhigh => hoverflows ⟨hhigh, hzero⟩, fun hswitch => if_pos hswitch, fun hstop => if_neg hstop⟩

end Sys2Proof.Machine

/-! ## Interrupts and the CPU step (60_exceptions) -/

namespace Sys2Proof.Machine

/-! ### The fetch -/

/-- Three bytes in which an instruction is found are its own bytes and the rest (30_encoding R180). -/
theorem length_of_decode {bs : List Byte} {i : Instr} {rest : List Byte} (h : decode bs = .ok (i, rest)) :
    i.length + rest.length = bs.length ∧ 1 ≤ i.length := by
  obtain ⟨o, w, rfl, rfl⟩ := decode_eq_ok h
  rw [primaryRow_instr_length]
  simp
  omega

/-- The state after the fetch of the instruction at PC (10_state R35, 60_exceptions R437). -/
theorem State.afterFetch_of_decode {s : State} {i : Instr} {rest : List Byte} (h : decode s.fetchWindow = .ok (i, rest)) :
    s.afterFetch (3 - rest.length) =
      { s with cpu.pc := s.operandAddr + BitVec.ofNat 16 (i.length - 1), cpu.haltBug := false } := by
  have hlen : i.length + rest.length = 3 := (length_of_decode h).1
  have hcount : 3 - rest.length = i.length := by omega
  rw [hcount]
  rfl

/-- Where the CPU runs, is not locked and takes no interrupt, its step is the instruction step (60_exceptions R437). -/
theorem State.cpuStep_of_running {s : State} (hl : s.cpu.locked = false) (hr : s.cpu.runMode = .running)
    (hi : s.interruptDue = none) : s.cpuStep = s.instructionStep := by
  simp [State.cpuStep, hl, hr, hi]

/-- Settles O6: with the HALT bug armed the operands begin at PC itself. -/
theorem haltBugFetch : Obligations.haltBugFetch := by
  intro s i rest hl hr hi hb hdec t ht
  have haddr : s.operandAddr = s.cpu.pc := if_pos hb
  have hwin : decode s.fetchWindow = .ok (i, rest) := by rw [State.fetchWindow, haddr, hdec]
  rw [State.cpuStep_of_running hl hr hi]
  refine State.instructionStep_of_decode hwin ?_
  rw [State.afterFetch_of_decode hwin, haddr]
  exact ht

@[simp] theorem State.finishEi_cost (s : State) (p : Bool) : (s.finishEi p).cpu.cost = s.cpu.cost := by
  rw [State.finishEi_changes]

/-- A CPU step that answers is followed by the device cycles it pays for (60_exceptions R449, R450). -/
theorem step_of_cpuStep {s t : State} (h : s.takeHostInput.cpuStep = .next t) : step s = .next t.runDevices := by
  rw [step, h]

/-- Settles O5: the fetch leaves PC past the instruction, and the devices run for the cost that stands after it. -/
theorem stepRunsDecodedInstruction : Obligations.stepRunsDecodedInstruction := by
  intro s i rest hl hr hi hb hdec t ht
  have haddr : s.takeHostInput.operandAddr = s.takeHostInput.cpu.pc + 1 :=
    if_neg (by rw [hb]; exact Bool.false_ne_true)
  have hthird : s.takeHostInput.cpu.pc + 1 + 1 = s.takeHostInput.cpu.pc + 2 := by bv_omega
  have hwin : decode s.takeHostInput.fetchWindow = .ok (i, rest) := by rw [State.fetchWindow, haddr, hthird, hdec]
  have hpc : s.takeHostInput.cpu.pc + 1 + BitVec.ofNat 16 (i.length - 1) =
      s.takeHostInput.cpu.pc + BitVec.ofNat 16 i.length := by
    have hpos := (length_of_decode hdec).2
    bv_omega
  have hfetch : s.takeHostInput.afterFetch (3 - rest.length) =
      { s.takeHostInput with cpu.pc := s.takeHostInput.cpu.pc + BitVec.ofNat 16 i.length } := by
    rw [State.afterFetch_of_decode hwin, haddr, hpc, ← hb]
  have hcpu : s.takeHostInput.cpuStep = .next (t.finishEi s.takeHostInput.cpu.imePending) := by
    rw [State.cpuStep_of_running hl hr hi]
    exact State.instructionStep_of_decode hwin (by rw [hfetch, ht])
  rw [step_of_cpuStep hcpu]
  simp [State.runDevices, State.deviceCount]

/-- Settles O40: the three fetched bytes hold an instruction, and every instruction answers. -/
theorem stepAlwaysAnswers : Obligations.stepAlwaysAnswers := by
  intro s
  have hcpu : ∃ t, s.takeHostInput.cpuStep = .next t := by
    rcases s.takeHostInput.cpuStep_cases with ⟨-, h⟩ | ⟨-, -, h⟩ | ⟨-, -, h⟩ | ⟨_, -, -, -, h⟩ | ⟨-, -, -, h⟩
    case inr.inr.inr.inr =>
      obtain ⟨i, rest, hdec, -⟩ := decodeTotalAndLengthByOpcode.1 (s.takeHostInput.busRead s.takeHostInput.cpu.pc)
        (s.takeHostInput.busRead s.takeHostInput.operandAddr) (s.takeHostInput.busRead (s.takeHostInput.operandAddr + 1)) []
      obtain ⟨t, ht, -⟩ := exec_effect i (s.takeHostInput.afterFetch (3 - rest.length))
      exact ⟨_, h.trans (State.instructionStep_of_decode hdec ht)⟩
    all_goals exact ⟨_, h⟩
  obtain ⟨t, ht⟩ := hcpu
  exact ⟨_, step_of_cpuStep ht⟩

/-! ### A locked and an idle CPU -/

/-- Settles O34: the locked branch is the first of the CPU step, and the devices leave the CPU alone. -/
theorem lockedForever : Obligations.lockedForever := by
  intro s hl
  have hcpu : s.takeHostInput.cpuStep = .next (s.takeHostInput.charge 4) := by simp [State.cpuStep, hl]
  refine ⟨_, step_of_cpuStep hcpu, by simp, ?_⟩
  have hcount : (s.takeHostInput.charge 4).deviceCount = if s.cpu.doubleSpeed then 2 else 4 := by simp [State.deviceCount]
  rw [State.runDevices, hcount]
  simp [State.charge]

/-- The low half of P1 shows the lines (63_io_devices R570). -/
theorem State.p1Read_lines (s : State) : s.p1Read.extractLsb' 0 4 = s.lines :=
  BitVec.extractLsb'_append_eq_right ..

/-- Settles O39: the two idle branches of the CPU step, with the condition that wakes each. -/
theorem idleAndWake : Obligations.idleAndWake := by
  intro s hl
  rw [s.p1Read_lines]
  refine ⟨fun hm hp => ?_, fun hm hp => ?_, fun hm hp => ?_, fun hm hp => ?_⟩ <;>
    simp [State.cpuStep, State.wakeIf, State.joypadLineLow, State.pend, State.charge, hl, hm, hp]

end Sys2Proof.Machine

namespace Sys2Proof.Machine

/-! ### The interrupt master enable -/

/-- What an instruction does to IME and the EI delay: DI, EI and RETI write them, no other does (60_exceptions R436). -/
theorem exec_ime {i : Instr} {s t : State} (h : exec i s = .next t) :
    (i = .di ∧ t.cpu.ime = false ∧ t.cpu.imePending = false) ∨
    (i = .ei ∧ t.cpu.ime = s.cpu.ime ∧ t.cpu.imePending = true) ∨
    (i = .reti ∧ t.cpu.ime = true ∧ t.cpu.imePending = false) ∨
    (i ≠ .di ∧ i ≠ .ei ∧ i ≠ .reti ∧ t.cpu.ime = s.cpu.ime ∧ t.cpu.imePending = s.cpu.imePending) := by
  by_cases hdi : i = .di
  · subst hdi; cases h; exact .inl ⟨rfl, rfl, rfl⟩
  by_cases hei : i = .ei
  · subst hei; cases h; exact .inr (.inl ⟨rfl, rfl, rfl⟩)
  by_cases hreti : i = .reti
  · subst hreti; cases h; exact .inr (.inr (.inl ⟨rfl, rfl, rfl⟩))
  refine .inr (.inr (.inr ⟨hdi, hei, hreti, ?_⟩))
  obtain ⟨u, hu, heff⟩ := exec_effect i s
  obtain rfl : u = t := Host.Outcome.next.inj (hu.symm.trans h)
  cases heff with
  | ordinary ho =>
    obtain ⟨hime, hpending, -⟩ := ho.moves.controlKept
    exact ⟨hime, hpending⟩
  | stop => unfold State.stopOp; split <;> exact ⟨rfl, rfl⟩
  | halt => unfold State.haltOp; split_ifs <;> exact ⟨rfl, rfl⟩
  | di => exact absurd rfl hdi
  | ei => exact absurd rfl hei
  | reti => exact absurd rfl hreti
  | illegal => exact ⟨rfl, rfl⟩

/-- The end of the EI delay, of an instruction step that began with it or without (60_exceptions R443). -/
theorem State.finishEi_ime (s : State) (p : Bool) :
    (s.finishEi p).cpu.ime = (s.cpu.ime || (p && s.cpu.imePending)) ∧
      (s.finishEi p).cpu.imePending = (s.cpu.imePending && !p) := by
  unfold State.finishEi
  cases p <;> cases h : s.cpu.imePending <;> simp [h]

@[simp] theorem State.wakeIf_ime (s : State) (p : Bool) : (s.wakeIf p).cpu.ime = s.cpu.ime := by
  unfold State.wakeIf
  split <;> rfl

@[simp] theorem State.wakeIf_imePending (s : State) (p : Bool) : (s.wakeIf p).cpu.imePending = s.cpu.imePending := by
  unfold State.wakeIf
  split <;> rfl

/-- An instruction step that answers decoded an instruction, ran it after the fetch and ended the EI delay. -/
theorem State.instructionStep_exec {s t : State} (h : s.instructionStep = .next t) :
    ∃ i rest u, decode s.fetchWindow = .ok (i, rest) ∧ exec i (s.afterFetch (3 - rest.length)) = .next u ∧
      t = u.finishEi s.cpu.imePending := by
  unfold State.instructionStep at h
  split at h
  · cases h
  · rename_i i rest hdec
    split at h <;> cases h
    exact ⟨i, rest, _, hdec, ‹_›, rfl⟩

/-- The writers of IME in a CPU step (60_exceptions R436). -/
theorem State.cpuStep_ime {s t : State} (h : s.cpuStep = .next t) (hne : t.cpu.ime ≠ s.cpu.ime) :
    (∃ k, s.interruptDue = some k ∧ t.cpu.ime = false) ∨
    (∃ rest, decode s.fetchWindow = .ok (.di, rest) ∧ t.cpu.ime = false) ∨
    (∃ rest, decode s.fetchWindow = .ok (.reti, rest) ∧ t.cpu.ime = true) ∨
    (s.cpu.imePending = true ∧ t.cpu.ime = true) := by
  rcases s.cpuStep_cases with ⟨-, hc⟩ | ⟨-, -, hc⟩ | ⟨-, -, hc⟩ | ⟨k, -, -, hk, hc⟩ | ⟨-, -, -, hc⟩ <;> rw [hc] at h
  · cases h; exact absurd rfl hne
  · cases h; exact absurd (by simp) hne
  · cases h; exact absurd (by simp) hne
  · cases h; exact .inl ⟨k, hk, rfl⟩
  · obtain ⟨i, rest, u, hdec, hexec, rfl⟩ := State.instructionStep_exec h
    rw [(u.finishEi_ime _).1] at hne ⊢
    rcases exec_ime hexec with ⟨rfl, hime, hpend⟩ | ⟨rfl, hime, hpend⟩ | ⟨rfl, hime, hpend⟩ | ⟨-, -, -, hime, hpend⟩
    · exact .inr (.inl ⟨rest, hdec, by simp [hime, hpend]⟩)
    · refine .inr (.inr (.inr ?_))
      rw [hime, hpend] at hne ⊢
      simp_all
    · exact .inr (.inr (.inl ⟨rest, hdec, by simp [hime]⟩))
    · refine .inr (.inr (.inr ?_))
      rw [hime, hpend] at hne ⊢
      simp_all

/-- Settles O38: the host's move and the devices leave the CPU alone, and the CPU step has the four writers. -/
theorem onlyFourWritersOfIme : Obligations.onlyFourWritersOfIme := by
  intro s t h hne
  obtain ⟨u, hu, rfl⟩ := step_next h
  simpa using State.cpuStep_ime hu (by simpa using hne)

/-- Settles O37, by what the instruction does to IME and the delay, and then the end of the delay. -/
theorem enableDelay : Obligations.enableDelay := by
  refine fun s => ⟨fun hoff => ?untaken, fun i rest hl hr hi hdec => ?instruction, fun hidle => ?idle⟩
  case untaken => simp [State.interruptDue, hoff]
  case instruction =>
    obtain ⟨u, hu, -⟩ := exec_effect i (s.afterFetch (3 - rest.length))
    refine ⟨u.finishEi s.cpu.imePending, ?_, ?_⟩
    · rw [State.cpuStep_of_running hl hr hi, State.instructionStep_of_decode hdec hu]
    · obtain ⟨hfime, hfpend⟩ := u.finishEi_ime s.cpu.imePending
      rw [hfime, hfpend]
      rcases exec_ime hu with ⟨rfl, hime, hpend⟩ | ⟨rfl, hime, hpend⟩ | ⟨rfl, hime, hpend⟩ | ⟨hdi, hei, hreti, hime, hpend⟩ <;>
        rw [hime, hpend]
      · simp
      · simp +contextual
      · simp
      · simp +contextual [hdi, hei]
  case idle =>
    rcases s.cpuStep_cases with ⟨-, hc⟩ | ⟨-, -, hc⟩ | ⟨-, -, hc⟩ | ⟨k, hl, hr, -, -⟩ | ⟨hl, hr, -, -⟩
    · exact ⟨_, hc, rfl, rfl⟩
    · exact ⟨_, hc, by simp, by simp⟩
    · exact ⟨_, hc, by simp, by simp⟩
    · simp [hl, hr] at hidle
    · simp [hl, hr] at hidle

/-! ### The pending interrupts and their dispatch -/

theorem IrqSource.bit_lt (k : IrqSource) : k.bit < 5 := by cases k <;> decide

/-- A source's mask holds that source's bit alone (60_exceptions R430). -/
theorem IrqSource.getLsbD_mask (k : IrqSource) (j : Nat) : k.mask.getLsbD j = decide (j = k.bit) := by
  have htwoPow := BitVec.getLsbD_twoPow (w := 5) k.bit j
  rw [decide_eq_true k.bit_lt, Bool.true_and] at htwoPow
  exact htwoPow.trans (by simp only [eq_comm])

theorem State.getLsbD_pend (s : State) {j : Nat} (hj : j < 5) :
    s.pend.getLsbD j = true ↔ s.irq.ie.getLsbD j = true ∧ s.irq.ifl.getLsbD j = true := by
  simp [State.pend, hj]

/-- The source chosen from a pending set is that of its lowest bit (60_exceptions R434). -/
theorem lowestSource_eq_some_iff (p : BitVec 5) (k : IrqSource) :
    lowestSource p = some k ↔ p.getLsbD k.bit = true ∧ ∀ j < k.bit, p.getLsbD j ≠ true := by
  cases k <;> revert p <;> decide

theorem lowestSource_eq_none_iff (p : BitVec 5) : lowestSource p = none ↔ ∀ j < 5, p.getLsbD j ≠ true := by
  revert p
  decide

/-- Settles O36: the bits of the pending set are the common bits of the two latches. -/
theorem lowestPendingWins : Obligations.lowestPendingWins := by
  intro s
  have hbelow {n : Nat} (hn : n ≤ 5) : (∀ j < n, ¬(s.irq.ie.getLsbD j = true ∧ s.irq.ifl.getLsbD j = true)) ↔
      ∀ j < n, s.pend.getLsbD j ≠ true :=
    forall₂_congr fun j hj => not_congr (s.getLsbD_pend (hj.trans_le hn)).symm
  refine ⟨fun k => ?_, ?_⟩
  · rw [← and_assoc, ← s.getLsbD_pend k.bit_lt, hbelow k.bit_lt.le]
    exact lowestSource_eq_some_iff s.pend k
  · rw [hbelow le_rfl]
    exact lowestSource_eq_none_iff s.pend

/-- The two bus writes of a push of `v` (20_memory R102). -/
def State.pushWrites (s : State) (v : Word) : State :=
  (s.busWrite (s.cpu.sp - 1) (hiByte v)).busWrite (s.cpu.sp - 2) (loByte v)

/-- Of the CPU a push's bus writes change the prepare bit alone. -/
theorem State.pushWrites_cpu (s : State) (v : Word) :
    (s.pushWrites v).cpu = { s.cpu with speedPrepare := (s.pushWrites v).cpu.speedPrepare } := by
  unfold State.pushWrites
  rw [(State.busWrite_cpu_cfg _ _ _).1, (s.busWrite_cpu_cfg _ _).1]

/-- An update of the HALT bug. -/
def State.setHaltBug (s : State) (b : Bool) : State := { s with cpu.haltBug := b }

/-- A bus write and an update of the HALT bug can change places: the bus does not see it. -/
theorem State.busWrite_setHaltBug (s : State) (b : Bool) (a : Word) (v : Byte) :
    (s.setHaltBug b).busWrite a v = (s.busWrite a v).setHaltBug b := by
  refine (s.busWrite_cpu { s.cpu with haltBug := b } ⟨rfl, rfl⟩ a v).trans ?_
  dsimp only [State.setHaltBug]
  rw [(s.busWrite_cpu_cfg a v).1]

theorem State.push16_setHaltBug (s : State) (b : Bool) (v : Word) :
    (s.setHaltBug b).push16 v = ((s.pushWrites v).setHaltBug b).setPair .sp (s.cpu.sp - 2) := by
  rw [State.push16_eq, State.busWrite_setHaltBug, State.busWrite_setHaltBug]
  rfl

/-- A dispatch is the two bus writes of the push and then updates of the CPU and of IF (60_exceptions R438, R439). -/
theorem State.dispatch_eq (s : State) (k : IrqSource) :
    s.dispatch k = { s.pushWrites s.dispatchReturn with
      cpu := { (s.pushWrites s.dispatchReturn).cpu with
        sp := s.cpu.sp - 2, haltBug := false, ime := false, imePending := false, pc := k.vector, cost := 20 }
      irq.ifl := (s.pushWrites s.dispatchReturn).irq.ifl &&& ~~~k.mask } := by
  have hpush := s.push16_setHaltBug false s.dispatchReturn
  unfold State.setHaltBug at hpush
  unfold State.dispatch
  rw [hpush]
  generalize s.pushWrites s.dispatchReturn = w
  simp only [State.setPair, State.acknowledge, State.setPc, State.charge]
  rfl

/-- The acknowledged source's bit falls and the others stay (60_exceptions R435). -/
theorem getLsbD_acknowledged (f : BitVec 5) (k : IrqSource) (j : Nat) :
    (f &&& ~~~k.mask).getLsbD j = (f.getLsbD j && decide (j ≠ k.bit)) := by
  rw [BitVec.getLsbD_and, BitVec.getLsbD_not, k.getLsbD_mask]
  by_cases hj : j < 5
  · simp [hj]
  · simp [BitVec.getLsbD_of_ge f j (by omega)]

theorem IrqSource.vector_toNat (k : IrqSource) : k.vector.toNat = 0x40 + 8 * k.bit := by cases k <;> rfl

/-- Where the CPU runs, is not locked and takes an interrupt, its step is the dispatch (60_exceptions R437). -/
theorem State.cpuStep_of_pending {s : State} {k : IrqSource} (hl : s.cpu.locked = false) (hr : s.cpu.runMode = .running)
    (hi : s.cpu.ime = true) (hk : s.nextPending = some k) : s.cpuStep = .next (s.dispatch k) := by
  simp [State.cpuStep, State.interruptDue, hl, hr, hi, hk]

/-- What a place says of an address that leads to it: the low bits of the address in a memory, the register's index in I/O. -/
def Place.locates (m : HwMode) (a : Nat) : Place → Prop
  | .vram k | .wram k => a % 0x1000 = k % 0x1000
  | .oam k => a % 0x1000 = 0xE00 + k
  | .hram k => a % 0x1000 = 0xF80 + k
  | .ie => a % 0x1000 = 0xFFF
  | .io r => 0xFF00 ≤ a ∧ ioRegAt m (a - 0xFF00) = some r
  | .rom _ | .cartRam _ | .unusable | .unmapped => True

/-- A VRAM index has the low bits of its address (20_memory R83). -/
theorem State.vramIndex_mod (s : State) {a : Nat} (h : 0x8000 ≤ a) : a % 0x1000 = s.vramIndex a % 0x1000 := by
  unfold State.vramIndex
  split <;> omega

/-- A WRAM index has the low bits of its address (20_memory R86). -/
theorem State.wramIndex_mod (s : State) {a : Nat} (h : 0xC000 ≤ a) : a % 0x1000 = s.wramIndex a % 0x1000 := by
  unfold State.wramIndex
  split <;> omega

/-- The place an address leads to says so of that address (20_memory R81 to R93). -/
theorem State.place_locates (s : State) (a : Word) : (s.place a).locates s.cfg.hwMode a.toNat := by
  have ha := a.isLt
  unfold State.place
  dsimp only
  split
  · trivial
  split
  · exact s.vramIndex_mod (by omega)
  split
  · trivial
  split
  · exact s.wramIndex_mod (by omega)
  split
  · exact Eq.trans (by omega) (s.wramIndex_mod (a := a.toNat - 0x2000) (by omega))
  split
  · simp only [Place.locates]; omega
  split
  · trivial
  split
  · split
    · exact ⟨by omega, ‹_›⟩
    · trivial
  split <;> simp only [Place.locates] <;> omega

theorem ioRegAt_eq_ifReg {m : HwMode} {k : Nat} (h : ioRegAt m k = some .ifReg) : k = 0x0F := by
  have hboth (h : ioRegBoth k = some .ifReg) : k = 0x0F := by
    unfold ioRegBoth at h
    split at h <;> simp_all
  cases m with
  | dmg => exact hboth h
  | cgb =>
    obtain hb | ⟨-, hc⟩ := (Option.orElse_eq_some _ _ _).1 h
    · exact hboth hb
    · unfold ioRegCgb at hc
      split at hc <;> cases hc

/-- IF has one address (20_memory R91). -/
theorem State.eq_of_place_ifReg {s : State} {b : Word} (h : s.place b = .io .ifReg) : b = 0xFF0F#16 := by
  have hloc := s.place_locates b
  rw [h] at hloc
  obtain ⟨hio, hreg⟩ := hloc
  have hindex := ioRegAt_eq_ifReg hreg
  bv_omega

/-- The two bytes of a push go to different places, if the upper one is stored. -/
theorem State.place_pushed_ne {s : State} {sp : Word} (h : s.stores (s.place (sp - 1)) = true) :
    s.place (sp - 1) ≠ s.place (sp - 2) := by
  intro heq
  have hhigh := s.place_locates (sp - 1)
  have hlow := s.place_locates (sp - 2)
  rw [← heq] at hlow
  generalize s.place (sp - 1) = p at h hhigh hlow
  cases p with
  | rom | cartRam | unusable | io | unmapped => cases h
  | _ =>
    have hmod := hhigh.trans hlow.symm
    bv_omega

/-- A bus read sees of the CPU the two speed bits alone, and IF at its own address alone. -/
theorem State.busRead_cpu_ifl (s : State) (u : Cpu) (f : BitVec 5) (hu : u.sameSpeed s.cpu) {b : Word}
    (hb : s.place b ≠ .io .ifReg) : State.busRead { s with cpu := u, irq.ifl := f } b = s.busRead b := by
  obtain ⟨hdouble, hprepare⟩ := hu
  refine (State.busRead_cpu { s with irq.ifl := f } u hdouble hprepare b).trans ?_
  show State.readPlace { s with irq.ifl := f } true (s.place b) = s.readPlace true (s.place b)
  cases hp : s.place b with
  | io r =>
    cases r with
    | ifReg => exact absurd hp hb
    | _ => rfl
  | _ => rfl

/-- At every address but IF's a state reads after a dispatch as after the two bus writes of the push. -/
theorem State.busRead_dispatch (s : State) (k : IrqSource) {b : Word}
    (hb : (s.pushWrites s.dispatchReturn).place b ≠ .io .ifReg) :
    (s.dispatch k).busRead b = (s.pushWrites s.dispatchReturn).busRead b := by
  rw [State.dispatch_eq]
  exact State.busRead_cpu_ifl _ _ _ ⟨rfl, rfl⟩ hb

/-- The frame of the two bus writes of a push, where both addresses are plain (20_memory R102). -/
theorem State.busRead_pushWrites (s : State) (v : Word) (h1 : (s.place (s.cpu.sp - 1)).plain = true)
    (h2 : (s.place (s.cpu.sp - 2)).plain = true) :
    (∀ b, s.place b ≠ s.place (s.cpu.sp - 1) → s.place b ≠ s.place (s.cpu.sp - 2) →
      (s.pushWrites v).busRead b = s.busRead b) ∧
    (s.stores (s.place (s.cpu.sp - 1)) = true → (s.pushWrites v).busRead (s.cpu.sp - 1) = hiByte v) ∧
    (s.stores (s.place (s.cpu.sp - 2)) = true → (s.pushWrites v).busRead (s.cpu.sp - 2) = loByte v) := by
  obtain ⟨-, -, -, -, hframe⟩ := (State.registerFrame_charge (s.pushWrites v) 20).twoStoreFrame
  obtain ⟨hother, hhigh, hlow⟩ := hframe h1 h2
  simp only [State.busRead_charge] at hother hhigh hlow
  exact ⟨hother, fun hs => hhigh hs (State.place_pushed_ne hs), hlow⟩

/-- Two plain writes leave the address decoder alone. -/
theorem State.place_pushWrites (s : State) (v : Word) (h1 : (s.place (s.cpu.sp - 1)).plain = true)
    (h2 : (s.place (s.cpu.sp - 2)).plain = true) (b : Word) : (s.pushWrites v).place b = s.place b := by
  have hfirst := (s.busWrite_plain_keeps (hiByte v) h1).1
  exact ((State.busWrite_plain_keeps _ (loByte v) (by rwa [hfirst])).1 b).trans (hfirst b)

/-- Settles O35: the push's two bus writes, and the updates of the CPU and IF that follow them. -/
theorem interruptDispatch : Obligations.interruptDispatch := by
  refine ⟨fun s k ret w hl hr hi hk hret hw => ?entry, fun s k ret hl hr hi hk hret h1 h2 => ?frame⟩ <;>
    refine ⟨s.dispatch k, State.cpuStep_of_pending hl hr hi hk, ?_⟩ <;>
    obtain rfl : ret = s.dispatchReturn := hret
  case entry =>
    obtain rfl : w = s.pushWrites s.dispatchReturn := hw
    have hcpu := s.pushWrites_cpu s.dispatchReturn
    rw [s.dispatch_eq k]
    generalize s.pushWrites s.dispatchReturn = w at hcpu
    refine ⟨k.vector_toNat, rfl, rfl, rfl, rfl, ?_, ?_, rfl, ?_, rfl, fun r _ => ?_, ?_, getLsbD_acknowledged _ k, rfl⟩
    · exact (congrArg Cpu.runMode hcpu).trans hr
    · exact (congrArg Cpu.locked hcpu).trans hl
    · exact (congrArg Cpu.doubleSpeed hcpu :)
    · have hreg := congrArg (Cpu.getReg · r) hcpu
      cases r <;> exact hreg
    · exact (congrArg Cpu.f hcpu :)
  case frame =>
    have hread {b : Word} (hb : s.place b ≠ .io .ifReg) :
        (s.dispatch k).busRead b = (s.pushWrites s.dispatchReturn).busRead b :=
      s.busRead_dispatch k (by rwa [s.place_pushWrites _ h1 h2])
    have hplain {b : Word} (hb : (s.place b).plain = true) : s.place b ≠ .io .ifReg := fun he => by simp [he, Place.plain] at hb
    obtain ⟨hother, hhigh, hlow⟩ := s.busRead_pushWrites s.dispatchReturn h1 h2
    exact ⟨fun b hb1 hb2 hif => (hread fun he => hif (State.eq_of_place_ifReg he)).trans (hother b hb1 hb2),
      fun hs => (hread (hplain h1)).trans (hhigh hs), fun hs => (hread (hplain h2)).trans (hlow hs)⟩

end Sys2Proof.Machine

namespace Sys2Proof.Machine

/-- A conditional request writes IF alone (60_exceptions R433). -/
theorem State.requestIf_eq (s : State) (b : Bool) (k : IrqSource) :
    s.requestIf b k = { s with irq.ifl := if b then s.irq.ifl ||| k.mask else s.irq.ifl } := by
  cases b <;> rfl

/-! ### A dot of the PPU -/

/-- The state after the counters' part of a dot (62_ppu R514). -/
def State.dotAdvanced (s : State) : State := { s with ppu := Ppu.advanceDot { s.ppu with hblankEntered := false } }

/-- The state after the counters' part of a dot and the entry to a mode, if the mode changes (62_ppu R514). -/
def State.modeEntered (s : State) : State :=
  if s.dotAdvanced.ppuMode = s.ppuMode then s.dotAdvanced else s.dotAdvanced.enterMode s.dotAdvanced.ppuMode

/-- A dot with the LCD on ends with the evaluation of the STAT line (62_ppu R514). -/
theorem State.ppuTick_of_lcdOn {s : State} (h : s.ppu.lcdOn = true) : s.ppuTick = s.modeEntered.evalStatLine :=
  if_neg (by show ¬s.ppu.lcdOn = false; simp [h])

/-- A dot with the LCD off does nothing (62_ppu R514). -/
theorem State.ppuTick_of_lcdOff {s : State} (h : s.ppu.lcdOn = false) :
    s.ppuTick = { s with ppu.hblankEntered := false } := if_pos h

/-- The last dot of a line (62_ppu R512, R514). -/
theorem Ppu.advanceDot_of_last {p : Ppu} (h : p.dot + 1 = 456) :
    p.advanceDot =
      { p with dot := 0, ly := (p.ly + 1) % 154, winLine := if (p.ly + 1) % 154 = 0 then 0 else p.winLine } :=
  if_pos h

/-- Another dot of a line (62_ppu R512, R514). -/
theorem Ppu.advanceDot_of_ne_last {p : Ppu} (h : p.dot + 1 ≠ 456) : p.advanceDot = { p with dot := p.dot + 1 } :=
  if_neg h

/-- The position after the last dot of a line is the start of the next line (62_ppu R512, R514). -/
theorem State.dotAdvanced_of_last {s : State} (h : s.ppu.dot + 1 = 456) :
    s.dotAdvanced = { s with
      ppu.hblankEntered := false
      ppu.dot := 0
      ppu.ly := (s.ppu.ly + 1) % 154
      ppu.winLine := if (s.ppu.ly + 1) % 154 = 0 then 0 else s.ppu.winLine } :=
  congrArg (fun p => { s with ppu := p }) (Ppu.advanceDot_of_last (p := { s.ppu with hblankEntered := false }) h)

/-- Any other dot leads to the next dot of the line (62_ppu R512, R514). -/
theorem State.dotAdvanced_of_ne_last {s : State} (h : s.ppu.dot + 1 ≠ 456) :
    s.dotAdvanced = { s with ppu.hblankEntered := false, ppu.dot := s.ppu.dot + 1 } :=
  congrArg (fun p => { s with ppu := p }) (Ppu.advanceDot_of_ne_last (p := { s.ppu with hblankEntered := false }) h)

/-- `q` has the control registers, the position and the STAT line of `p`. -/
structure Ppu.SameRegisters (p q : Ppu) : Prop where
  lcdc : q.lcdc = p.lcdc
  statEn : q.statEn = p.statEn
  ly : q.ly = p.ly
  lyc : q.lyc = p.lyc
  dot : q.dot = p.dot
  statLine : q.statLine = p.statLine

namespace Ppu.SameRegisters
variable {p q : Ppu}

theorem lcdOn (h : p.SameRegisters q) : q.lcdOn = p.lcdOn := by rw [Ppu.lcdOn, Ppu.lcdOn, h.lcdc]

theorem mode (h : p.SameRegisters q) (n : Nat) : q.mode n = p.mode n := by
  simp only [Ppu.mode, h.lcdOn, h.ly, h.dot]

theorem statLevel (h : p.SameRegisters q) (m : PpuMode) : q.statLevel m = p.statLevel m := by
  simp only [Ppu.statLevel, Ppu.coincidence, h.statEn, h.ly, h.lyc]

end Ppu.SameRegisters

/-- The counters' part of a dot moves the position and the window's line counter alone (62_ppu R514). -/
theorem Ppu.advanceDot_changes (p : Ppu) :
    p.advanceDot = { p with dot := p.advanceDot.dot, ly := p.advanceDot.ly, winLine := p.advanceDot.winLine } := by
  unfold Ppu.advanceDot
  dsimp only
  split <;> rfl

@[simp] theorem Ppu.advanceDot_lcdOn (p : Ppu) : p.advanceDot.lcdOn = p.lcdOn := by
  rw [Ppu.advanceDot_changes]
  rfl

/-- What entering a mode does: rendering writes the frame, the sprites and the window's line counter; the entry of a visible line
into mode 0 is marked; V-blank is requested and the frame handed off (62_ppu R514, R515). -/
theorem State.enterMode_eq (s : State) (m : PpuMode) :
    s.enterMode m = { s with
      ppu := { s.ppu with
        lineSprites := (s.enterMode m).ppu.lineSprites
        fb := (s.enterMode m).ppu.fb
        winLine := (s.enterMode m).ppu.winLine
        hblankEntered := if m = .hblank ∧ s.ppu.ly < 144 then true else s.ppu.hblankEntered }
      irq.ifl := if m = .vblank then s.irq.ifl ||| 1#5 else s.irq.ifl
      host.frames := if m = .vblank then s.ppu.fb :: s.host.frames else s.host.frames } := by
  cases m with
  | hblank =>
    dsimp only [State.enterMode]
    split
    · rename_i h; simp [h]
    · rename_i h; simp [h]
  | _ => rfl

/-- The mode entered at a dot, if the dot changes the mode. -/
def State.enters (s : State) (m : PpuMode) : Prop := s.dotAdvanced.ppuMode = m ∧ s.ppuMode ≠ m

/-- At a dot a mode is entered, or the position moves and nothing else happens. -/
theorem State.modeEntered_cases (s : State) :
    (s.modeEntered = s.dotAdvanced ∧ ∀ m, ¬s.enters m) ∨
      ∃ m, s.modeEntered = s.dotAdvanced.enterMode m ∧ ∀ n, s.enters n ↔ m = n := by
  by_cases hmode : s.dotAdvanced.ppuMode = s.ppuMode
  · refine .inl ⟨if_pos hmode, fun m h => h.2 ?_⟩
    rw [← hmode, h.1]
  · refine .inr ⟨_, if_neg hmode, fun n => ⟨fun h => h.1, ?_⟩⟩
    rintro rfl
    exact ⟨rfl, fun h => hmode h.symm⟩

/-- Entering a mode leaves the registers, the position and the STAT line alone. -/
theorem State.modeEntered_registers (s : State) : s.dotAdvanced.ppu.SameRegisters s.modeEntered.ppu := by
  obtain ⟨h, -⟩ | ⟨m, h, -⟩ := s.modeEntered_cases <;> rw [h]
  · exact ⟨rfl, rfl, rfl, rfl, rfl, rfl⟩
  · rw [State.enterMode_eq]
    exact ⟨rfl, rfl, rfl, rfl, rfl, rfl⟩

/-- What a dot requests, hands off and marks before the STAT line is evaluated (62_ppu R514, R515). -/
theorem State.modeEntered_outputs (s : State) :
    (s.enters .vblank →
      s.modeEntered.irq.ifl = s.irq.ifl ||| 1#5 ∧ s.modeEntered.host.frames = s.ppu.fb :: s.host.frames) ∧
    (¬s.enters .vblank → s.modeEntered.irq.ifl = s.irq.ifl ∧ s.modeEntered.host.frames = s.host.frames) ∧
    (s.modeEntered.ppu.hblankEntered = true ↔ s.enters .hblank ∧ s.dotAdvanced.ppu.ly < 144) := by
  have hfb : s.dotAdvanced.ppu.fb = s.ppu.fb := by rw [State.dotAdvanced, Ppu.advanceDot_changes]
  have hmark : s.dotAdvanced.ppu.hblankEntered = false := by rw [State.dotAdvanced, Ppu.advanceDot_changes]
  obtain ⟨h, hno⟩ | ⟨m, h, hm⟩ := s.modeEntered_cases <;> rw [h]
  · exact ⟨fun hv => absurd hv (hno _), fun _ => ⟨rfl, rfl⟩, by simp [hmark, hno]⟩
  · rw [State.enterMode_eq, hm, hm, hfb, hmark]
    refine ⟨?_, ?_, ?_⟩
    · rintro rfl; exact ⟨rfl, rfl⟩
    · exact fun hne => ⟨if_neg hne, if_neg hne⟩
    · simp

/-- The evaluation of the STAT line stores its level and requests on its rise (62_ppu R518). -/
theorem State.evalStatLine_eq (s : State) :
    s.evalStatLine = { s with
      ppu.statLine := s.ppu.statLevel s.ppuMode
      irq.ifl :=
        if s.ppu.statLevel s.ppuMode && !s.ppu.statLine then s.irq.ifl ||| 2#5 else s.irq.ifl } :=
  State.requestIf_eq _ _ _

/-- A dot leaves the buttons alone. -/
theorem State.ppuTick_pressed (s : State) : s.ppuTick.host.pressed = s.host.pressed := by
  cases hon : s.ppu.lcdOn with
  | false => rw [State.ppuTick_of_lcdOff hon]
  | true =>
    rw [State.ppuTick_of_lcdOn hon, State.evalStatLine_eq]
    obtain ⟨h, -⟩ | ⟨m, h, -⟩ := s.modeEntered_cases <;> rw [h]
    · rfl
    · rw [State.enterMode_eq]; rfl

end Sys2Proof.Machine

/-! ## Invariants of the devices that every action of a step keeps -/

namespace Sys2Proof.Machine

/-- `p` is kept by each action a step is made of: an update of the CPU and the interrupt latches, the host's move, the reset of
the divider by STOP, a bus write, and a device cycle. -/
structure State.KeptByActions (p : State → Prop) : Prop where
  update : ∀ {cpu : Cpu} {irq : Irq} (s : State), p s → p { s with cpu := cpu, irq := irq }
  input : ∀ {s : State}, p s → p s.takeHostInput
  divider : ∀ {s : State}, p s → p s.resetDivider
  write : ∀ {s : State} (a : Word) (v : Byte), p s → p (s.busWrite a v)
  devices : ∀ {s : State}, p s → p s.deviceCycle

namespace State.KeptByActions
variable {p : State → Prop} {s t : State}

theorem moves (k : State.KeptByActions p) (hst : s.Moves t) (hs : p s) : p t := by
  induction hst with
  | refl => exact hs
  | registers _ _ ih => exact k.update _ ih
  | write _ a v ih => exact k.write a v ih

theorem effect (k : State.KeptByActions p) {i : Instr} (hst : s.Effect i t) (hs : p s) : p t := by
  cases hst with
  | ordinary h => exact k.moves h.moves hs
  | stop =>
    unfold State.stopOp
    split <;> exact k.update s.resetDivider (k.divider hs)
  | halt =>
    unfold State.haltOp
    split_ifs <;> exact k.update s hs
  | reti =>
    unfold State.retiOp State.returnFromInterrupt State.dropStack State.setPc State.charge
    exact k.update s hs
  | _ => exact k.update s hs

theorem cpuStep (k : State.KeptByActions p) (h : s.cpuStep = .next t) (hs : p s) : p t := by
  obtain ⟨w, rfl⟩ | ⟨irq, -, rfl⟩ | ⟨-, -, hi⟩ := State.cpuStep_next h
  · unfold State.wakeIf
    split <;> exact k.update s hs
  · obtain ⟨u, hu, hd⟩ := s.dispatch_moves irq
    rw [hd]
    exact k.update u (k.moves hu (k.update s hs))
  · obtain ⟨i, rest, u, -, heff, rfl⟩ := State.instructionStep_next hi
    rw [State.finishEi_changes]
    exact k.update u (k.effect heff (k.update s hs))

/-- What each action keeps, the whole step keeps. -/
theorem step (k : State.KeptByActions p) (h : step s = .next t) (hs : p s) : p t := by
  obtain ⟨u, hu, rfl⟩ := step_next h
  exact State.deviceCycles_keep (p := p) (fun _ => k.devices) (k.cpuStep hu (k.input hs)) u.deviceCount

end State.KeptByActions

/-! ### What the devices' operations do -/

/-- The evaluation of the joypad stores the lines and requests if one of them falls (63_io_devices R571). -/
theorem State.evalJoypad_eq (s : State) :
    s.evalJoypad = { s with
      joypad.joyLines := s.lines
      irq.ifl := if s.joypad.joyLines &&& ~~~s.lines ≠ 0#4 then s.irq.ifl ||| 16#5 else s.irq.ifl } := by
  rw [State.evalJoypad, State.requestIf_eq]
  simp only [decide_eq_true_eq]
  rfl

/-- A reload that ends loads TMA; another counts down (61_timer R486). -/
theorem Timer.countReload_eq (t : Timer) :
    t.countReload = { t with
      tima := if t.reloadDelay = 1 then t.tma else t.tima, reloadDelay := t.reloadDelay - 1 } := by
  unfold Timer.countReload
  split
  · rename_i h; rw [h]
  · rfl

theorem Timer.fallingEdge_reloadDelay {t : Timer} (h : t.reloadDelay ≤ 4) (old : Bool) :
    (t.fallingEdge old).reloadDelay ≤ 4 := by
  unfold Timer.fallingEdge Timer.incTima
  split_ifs
  exacts [le_rfl, h, h]

/-- A serial cycle without a transfer (63_io_devices R574). -/
theorem State.serialTick_of_idle {s : State} (h : s.serial.count = 0) : s.serialTick = s := if_pos h

/-- A serial cycle that ends the transfer (63_io_devices R574). -/
theorem State.serialTick_of_last {s : State} (h : s.serial.count = 1) :
    s.serialTick =
      State.request { s with serial := { sb := 0xFF, sc := s.serial.sc &&& 0x7F#8, count := 0 } } .serial := by
  simp [State.serialTick, h]

/-- A serial cycle within a transfer (63_io_devices R574). -/
theorem State.serialTick_of_busy {s : State} (h : 1 < s.serial.count) :
    s.serialTick = { s with serial.count := s.serial.count - 1 } := by
  simp (disch := omega) only [State.serialTick, if_neg]

/-- An address is aligned if it is a multiple of 16 (63_io_devices R577). -/
theorem Hdma.aligned_iff (h : Hdma) : h.aligned ↔ h.src.toNat % 16 = 0 ∧ h.dst.toNat % 16 = 0 := by
  simp [Hdma.aligned, BitVec.toNat_eq]

/-- A block moves both addresses on by 16 (63_io_devices R577). -/
theorem State.copyBlock_aligned {s : State} (h : s.hdma.aligned) : s.copyBlock.hdma.aligned := by
  obtain ⟨hsrc, hdst⟩ := s.hdmaBytes_addresses 16
  rw [Hdma.aligned_iff] at h ⊢
  rw [State.copyBlock, hsrc, hdst]
  bv_omega

theorem State.copyBlocks_aligned {s : State} (h : s.hdma.aligned) (n : Nat) : (s.copyBlocks n).hdma.aligned := by
  induction n with
  | zero => exact h
  | succ n ih => exact State.copyBlock_aligned ih

/-- A byte whose low nibble a mask clears (63_io_devices R577). -/
theorem extractLsb'_and_highNibble (v : Byte) : (v &&& 0xF0#8).extractLsb' 0 4 = 0#4 := by
  rw [BitVec.extractLsb'_and]
  exact BitVec.and_zero

/-- The low nibble of an address whose high byte is replaced. -/
theorem extractLsb'_append_low {n m : Nat} (x : BitVec n) (y : BitVec m) :
    (x ++ y.extractLsb' 0 8).extractLsb' 0 4 = y.extractLsb' 0 4 := by
  rw [BitVec.extractLsb'_append_eq_of_add_le (by decide), BitVec.extractLsb'_extractLsb'_of_le (by decide)]

theorem extractLsb'_append_highNibble {n : Nat} (x : BitVec n) (v : Byte) :
    (x ++ (v &&& 0xF0#8)).extractLsb' 0 4 = 0#4 := by
  rw [BitVec.extractLsb'_append_eq_of_add_le (by decide), extractLsb'_and_highNibble]

/-- Bits that are zero stay zero under a mask. -/
theorem and_and_eq_zero {x m : Byte} (h : x &&& m = 0#8) (y : Byte) : x &&& y &&& m = 0#8 := by
  rw [BitVec.and_assoc, BitVec.and_comm y, ← BitVec.and_assoc, h, BitVec.zero_and]

/-! ### Timer, serial port, HDMA and joypad -/

namespace State.DevicesOk
variable {s : State}

/-- What the invariant speaks of: the reload, the serial port, the alignment of HDMA, the joypad, the pressed buttons and the
configuration. -/
theorem frame (h : s.DevicesOk) {t : State} (hreload : t.timer.reloadDelay ≤ 4) (hserial : t.serial = s.serial)
    (haligned : t.hdma.aligned) (hjoypad : t.joypad = s.joypad) (hpressed : t.host.pressed = s.host.pressed)
    (hcfg : t.cfg = s.cfg) : t.DevicesOk := by
  have hlines : t.lines = s.lines := by simp only [State.lines, hjoypad, hpressed]
  obtain ⟨-, h2, h3, h4, -, h6⟩ := h
  refine ⟨hreload, ?_, ?_, ?_, haligned, ?_⟩ <;> simp only [hserial, hjoypad, hcfg, hlines]
  exacts [h2, h3, h4, h6]

theorem setTimer (h : s.DevicesOk) {t : Timer} (ht : t.reloadDelay ≤ 4) : State.DevicesOk { s with timer := t } :=
  { h with reload := ht }

theorem setHdma (h : s.DevicesOk) {d : Hdma} (hd : d.aligned) : State.DevicesOk { s with hdma := d } :=
  { h with hdmaAligned := hd }

/-- HDMA changes VRAM and its own registers alone. -/
theorem dma (h : s.DevicesOk) {t : State} (ht : t = { s with vram := t.vram, hdma := t.hdma }) (ha : t.hdma.aligned) :
    t.DevicesOk := by
  rw [ht]
  exact { h with hdmaAligned := ha }

/-- Whatever changes at the joypad, its evaluation makes the lines current (63_io_devices R571). -/
theorem evalJoypad (h : s.DevicesOk) (j : Joypad) (host : HostSide) :
    State.DevicesOk (State.evalJoypad { s with joypad := j, host := host }) := by
  rw [State.evalJoypad_eq]
  exact { h with joypad := rfl }

theorem takeHostInput (h : s.DevicesOk) : s.takeHostInput.DevicesOk := by
  unfold State.takeHostInput
  split
  · exact h
  · exact h.frame h.reload rfl h.hdmaAligned rfl rfl rfl
  · exact h.evalJoypad _ _

theorem resetDivider (h : s.DevicesOk) : s.resetDivider.DevicesOk :=
  h.setTimer (Timer.fallingEdge_reloadDelay (t := { s.timer with div := 0 }) h.reload _)

/-- A write of SC stores no unused bit, and starts a transfer with bits 7 and 0 set alone (63_io_devices R573, R574). -/
theorem scWrite (h : s.DevicesOk) (v : Byte) : (s.scWrite v).DevicesOk := by
  refine { h with serialCount := ?count, serialBusy := fun hbusy => ?busy, serialBits := ?bits }
  case count =>
    dsimp only [State.scWrite]
    split <;> decide
  case busy =>
    dsimp only [State.scWrite] at hbusy ⊢
    split at hbusy
    · rename_i hv
      obtain ⟨h7, h0⟩ : v.getLsbD 7 = true ∧ v.getLsbD 0 = true := by simpa using hv
      cases s.cfg.hwMode <;> simp [scStored, h7, h0]
    · exact absurd hbusy (lt_irrefl 0)
  case bits =>
    dsimp only [State.scWrite]
    cases s.cfg.hwMode <;> simp [scStored, BitVec.and_assoc]

theorem serialTick (h : s.DevicesOk) : s.serialTick.DevicesOk := by
  obtain hidle | hlast | hbusy : s.serial.count = 0 ∨ s.serial.count = 1 ∨ 1 < s.serial.count := by omega
  · rwa [State.serialTick_of_idle hidle]
  · rw [State.serialTick_of_last hlast]
    exact { h with
      serialCount := Nat.zero_le 4096, serialBusy := nofun, serialBits := and_and_eq_zero h.serialBits 0x7F#8 }
  · rw [State.serialTick_of_busy hbusy]
    exact { h with
      serialCount := (Nat.sub_le _ _).trans h.serialCount
      serialBusy := fun _ => h.serialBusy (by omega) }

theorem hdma5Write (h : s.DevicesOk) (v : Byte) : (s.hdma5Write v).DevicesOk := by
  unfold State.hdma5Write
  split_ifs
  · exact h.setHdma h.hdmaAligned
  · exact h.setHdma h.hdmaAligned
  · have hblocks := h.dma (s.copyBlocks_changes _) (State.copyBlocks_aligned h.hdmaAligned ((v.extractLsb' 0 7).toNat + 1))
    exact hblocks.setHdma hblocks.hdmaAligned

theorem hdmaTick (h : s.DevicesOk) : s.hdmaTick.DevicesOk := by
  have hblock := h.dma s.copyBlock_changes (State.copyBlock_aligned h.hdmaAligned)
  unfold State.hdmaTick
  split
  · dsimp only
    split <;> exact hblock.setHdma hblock.hdmaAligned
  · exact h

theorem timerTick (h : s.DevicesOk) : s.timerTick.DevicesOk := by
  have hreload : s.timer.countReload.reloadDelay ≤ 4 := by
    rw [Timer.countReload_eq]
    exact (Nat.sub_le _ _).trans h.reload
  rw [State.timerTick, State.requestIf_eq]
  refine h.frame ?_ rfl h.hdmaAligned rfl rfl rfl
  exact Timer.fallingEdge_reloadDelay (t := { s.timer.countReload with div := s.timer.countReload.div + 1 }) hreload _

theorem ppuTick (h : s.DevicesOk) : s.ppuTick.DevicesOk := by
  have hpressed := s.ppuTick_pressed
  have hchanges := s.ppuTick_changes
  generalize s.ppuTick = t at hpressed hchanges
  rw [hchanges]
  exact h.frame h.reload rfl h.hdmaAligned rfl hpressed rfl

theorem deviceCycle (h : s.DevicesOk) : s.deviceCycle.DevicesOk := h.timerTick.ppuTick.serialTick.hdmaTick

theorem ioWrite (h : s.DevicesOk) (r : IoReg) (v : Byte) : (s.ioWrite r v).DevicesOk := by
  obtain ⟨hsrc, hdst⟩ := h.hdmaAligned
  cases r with
  | p1 => exact h.evalJoypad _ _
  | sc => exact h.scWrite v
  | sb => exact { h with reload := h.reload }
  | div => exact h.resetDivider
  | tac => exact h.setTimer (Timer.fallingEdge_reloadDelay (t := { s.timer with tac := v.extractLsb' 0 3 }) h.reload _)
  | tima => exact h.setTimer (Nat.zero_le 4)
  | tma => exact h.setTimer h.reload
  | dma =>
    show (s.oamDma v).DevicesOk
    rw [State.oamDma, State.oamCopy_changes]
    exact h.frame h.reload rfl h.hdmaAligned rfl rfl rfl
  | hdma1 => exact h.setHdma ⟨(extractLsb'_append_low _ _).trans hsrc, hdst⟩
  | hdma2 => exact h.setHdma ⟨extractLsb'_append_highNibble _ v, hdst⟩
  | hdma3 => exact h.setHdma ⟨hsrc, (extractLsb'_append_low _ _).trans hdst⟩
  | hdma4 => exact h.setHdma ⟨hsrc, extractLsb'_append_highNibble _ v⟩
  | hdma5 => exact h.hdma5Write v
  | _ => exact h.frame h.reload rfl h.hdmaAligned rfl rfl rfl

theorem writePlace (h : s.DevicesOk) (p : Place) (v : Byte) : (s.writePlace p v).DevicesOk := by
  cases p with
  | rom a => dsimp only [State.writePlace, State.cartControl]; split <;> exact h.frame h.reload rfl h.hdmaAligned rfl rfl rfl
  | cartRam a =>
    dsimp only [State.writePlace, State.cartRamWrite]
    split
    · exact h
    · split <;> exact h.frame h.reload rfl h.hdmaAligned rfl rfl rfl
  | vram k | oam k => dsimp only [State.writePlace]; split <;> exact h.frame h.reload rfl h.hdmaAligned rfl rfl rfl
  | io r => exact h.ioWrite r v
  | _ => exact h.frame h.reload rfl h.hdmaAligned rfl rfl rfl

/-- Every action of a step keeps the ranges of the devices. -/
theorem keptByActions : State.KeptByActions State.DevicesOk where
  update _ h := h.frame h.reload rfl h.hdmaAligned rfl rfl rfl
  input h := h.takeHostInput
  divider h := h.resetDivider
  write _ v h := h.writePlace _ v
  devices h := h.deviceCycle

end State.DevicesOk

/-- Settles O45: each action of a step keeps the ranges. -/
theorem devicesInvariantKept : Obligations.devicesInvariantKept :=
  fun _ _ hs h => State.DevicesOk.keptByActions.step h hs

end Sys2Proof.Machine

namespace Sys2Proof.Machine

/-! ### The PPU -/

/-- A line enters mode 3 at dot 80 (62_ppu R513). -/
theorem State.position_of_enters_transfer {s : State} (h : s.enters .transfer) :
    s.ppu.ly < 144 ∧ s.ppu.dot = 79 ∧
      s.dotAdvanced.ppu = { s.ppu with hblankEntered := false, dot := 80 } := by
  obtain ⟨hnew, hold⟩ := h
  have hnew := (Ppu.mode_eq_transfer_iff _ _).1 hnew
  have hold := mt (Ppu.mode_eq_transfer_iff s.ppu s.cfg.mode3Len).2 hold
  by_cases hlast : s.ppu.dot + 1 = 456
  · rw [State.dotAdvanced_of_last hlast] at hnew
    exact absurd hnew.2.1 (by decide : ¬80 ≤ 0)
  · rw [State.dotAdvanced_of_ne_last hlast] at hnew ⊢
    obtain ⟨hvisible, hlow, hhigh⟩ := hnew
    have hdot : s.ppu.dot = 79 := by
      by_contra hne
      exact hold ⟨hvisible, by dsimp only at hlow; omega, by dsimp only at hhigh; omega⟩
    exact ⟨hvisible.2, hdot, by rw [hdot]⟩

namespace State.PpuOk
variable {s : State}

/-- The invariant speaks of the PPU and the frames handed off alone. -/
theorem of_same (h : s.PpuOk) {t : State} (hppu : t.ppu = s.ppu) (hframes : t.host.frames = s.host.frames) :
    t.PpuOk := by
  obtain ⟨h1, h2, h3, h4, h5, h6, h7⟩ := h
  constructor <;> simp only [hppu, hframes]
  exacts [h1, h2, h3, h4, h5, h6, h7]

/-- Turning the LCD off or on puts the position at the origin (62_ppu R519). -/
theorem writeLcdc (h : s.PpuOk) (v : Byte) : State.PpuOk { s with ppu := s.ppu.writeLcdc v } := by
  obtain ⟨hwin, hahead⟩ := h.window
  have horigin : 0 < 154 ∧ 0 < 456 := by decide
  unfold Ppu.writeLcdc
  split_ifs with hoff hon
  · exact { h with
      line := horigin.1, dot := horigin.2, lcdOff := fun _ => ⟨rfl, rfl, rfl⟩
      window := ⟨hwin, fun hlcd => absurd (hoff.2.symm.trans hlcd) nofun⟩ }
  · exact { h with
      line := horigin.1, dot := horigin.2, lcdOff := fun hlcd => absurd (hon.2.symm.trans hlcd) nofun
      window := ⟨Nat.zero_le _, fun _ => Nat.zero_le _⟩ }
  · have hsame : s.ppu.lcdOn = v.getLsbD 7 := by
      revert hoff hon
      cases s.ppu.lcdOn <;> cases v.getLsbD 7 <;> simp
    exact { h with
      lcdOff := fun hlcd => h.lcdOff (hsame.trans hlcd)
      window := ⟨hwin, fun hlcd => hahead (hsame.trans hlcd)⟩ }

/-- The counters' part of a dot keeps the position within the frame, and a new line allows one more window line (62_ppu R512,
R524). -/
theorem dotAdvanced (h : s.PpuOk) (hon : s.ppu.lcdOn = true) : s.dotAdvanced.PpuOk := by
  have hline := h.line
  have hdot := h.dot
  obtain ⟨hwin, hahead⟩ := h.window
  have hahead := hahead hon
  by_cases hlast : s.ppu.dot + 1 = 456
  · rw [State.dotAdvanced_of_last hlast]
    refine { h with
      line := Nat.mod_lt _ (by decide), dot := Nat.zero_lt_succ _, lcdOff := fun hoff => absurd (hon.symm.trans hoff) nofun
      window := ?_ }
    dsimp only
    split at hahead <;> split <;> refine ⟨?_, fun _ => ?_⟩ <;> omega
  · rw [State.dotAdvanced_of_ne_last hlast]
    refine { h with
      dot := Nat.lt_of_le_of_ne hdot hlast, lcdOff := fun hoff => absurd (hon.symm.trans hoff) nofun
      window := ⟨hwin, fun _ => ?_⟩ }
    dsimp only
    split at hahead <;> split <;> omega

/-- A line is rendered at its entry to mode 3: at most ten sprites, 160 pixels, and at most one more window line (62_ppu R520,
R521, R524). -/
theorem renderLine (h : s.PpuOk) (hline : s.ppu.ly < 144) (hdot : s.ppu.dot = 80) (hwin : s.ppu.winLine ≤ s.ppu.ly) :
    s.selectSprites.renderLine.PpuOk := by
  obtain ⟨hlines, hpixels⟩ := h.frame
  refine { h with sprites := ⟨?length, fun i hi => ?index⟩, frame := ⟨?lines, fun l hl => ?pixels⟩, window := ?window }
  case length => exact List.length_take_le 10 _
  case index => exact List.mem_range.1 (List.mem_of_mem_filter (List.mem_of_mem_take hi))
  case lines => exact List.length_set.trans hlines
  case pixels =>
    rcases List.mem_or_eq_of_mem_set hl with hold | rfl
    · exact hpixels l hold
    · simp
  case window =>
    have hnext : s.selectSprites.renderLine.ppu.winLine ≤ s.ppu.ly + 1 := by
      show (if s.selectSprites.winOn then s.ppu.winLine + 1 else s.ppu.winLine) ≤ s.ppu.ly + 1
      split <;> omega
    refine ⟨hnext.trans hline, fun _ => hnext.trans_eq ?_⟩
    show s.ppu.ly + 1 = s.ppu.ly + if 80 ≤ s.ppu.dot then 1 else 0
    rw [hdot]
    rfl

theorem evalStatLine (h : s.PpuOk) (hon : s.ppu.lcdOn = true) : s.evalStatLine.PpuOk := by
  rw [State.evalStatLine_eq]
  exact { h with lcdOff := fun hoff => absurd (hon.symm.trans hoff) nofun }

theorem modeEntered (h : s.PpuOk) (hon : s.ppu.lcdOn = true) : s.modeEntered.PpuOk := by
  have hadv := h.dotAdvanced hon
  obtain ⟨hm, -⟩ | ⟨m, hm, henters⟩ := s.modeEntered_cases <;> rw [hm]
  · exact hadv
  · cases m with
    | oamScan => exact hadv
    | transfer =>
      obtain ⟨hline, hdot, hppu⟩ := State.position_of_enters_transfer ((henters _).2 rfl)
      have hahead := h.window.2 hon
      rw [hdot] at hahead
      exact hadv.renderLine (by rw [hppu]; exact hline) (by rw [hppu]) (by rw [hppu]; exact hahead)
    | hblank =>
      dsimp only [State.enterMode]
      split
      · exact { hadv with line := hadv.line }
      · exact hadv
    | vblank =>
      refine { hadv with handedOff := fun f hf => ?_ }
      rcases List.mem_cons.1 hf with rfl | hf
      exacts [hadv.frame, hadv.handedOff f hf]

theorem ppuTick (h : s.PpuOk) : s.ppuTick.PpuOk := by
  cases hon : s.ppu.lcdOn with
  | false =>
    rw [State.ppuTick_of_lcdOff hon]
    exact { h with line := h.line }
  | true =>
    have hlcd : s.modeEntered.ppu.lcdOn = true :=
      s.modeEntered_registers.lcdOn.trans ((Ppu.advanceDot_lcdOn _).trans hon)
    rw [State.ppuTick_of_lcdOn hon]
    exact (h.modeEntered hon).evalStatLine hlcd

theorem deviceCycle (h : s.PpuOk) : s.deviceCycle.PpuOk := by
  have htimer : s.timerTick.PpuOk := by
    rw [State.timerTick_changes]
    exact h.of_same rfl rfl
  have hppu := htimer.ppuTick
  unfold State.deviceCycle
  rw [State.hdmaTick_changes, State.serialTick_changes]
  exact hppu.of_same rfl rfl

theorem ioWrite (h : s.PpuOk) (r : IoReg) (v : Byte) : (s.ioWrite r v).PpuOk := by
  cases r with
  | lcdc => exact h.writeLcdc v
  | p1 =>
    show (s.p1Write v).PpuOk
    rw [State.p1Write, State.evalJoypad_eq]
    exact h.of_same rfl rfl
  | dma =>
    show (s.oamDma v).PpuOk
    rw [State.oamDma, State.oamCopy_changes]
    exact h.of_same rfl rfl
  | hdma5 =>
    show (s.hdma5Write v).PpuOk
    rw [State.hdma5Write_changes]
    exact h.of_same rfl rfl
  | _ => exact { h with line := h.line }

theorem writePlace (h : s.PpuOk) (p : Place) (v : Byte) : (s.writePlace p v).PpuOk := by
  cases p with
  | rom a => dsimp only [State.writePlace, State.cartControl]; split <;> exact h.of_same rfl rfl
  | cartRam a =>
    dsimp only [State.writePlace, State.cartRamWrite]
    split
    · exact h
    · split <;> exact h.of_same rfl rfl
  | vram k | oam k => dsimp only [State.writePlace]; split <;> exact h.of_same rfl rfl
  | io r => exact h.ioWrite r v
  | _ => exact h.of_same rfl rfl

theorem takeHostInput (h : s.PpuOk) : s.takeHostInput.PpuOk := by
  unfold State.takeHostInput
  split
  · exact h
  · exact h.of_same rfl rfl
  · rw [State.setButtons, State.evalJoypad_eq]
    exact h.of_same rfl rfl

/-- Every action of a step keeps the ranges of the PPU. -/
theorem keptByActions : State.KeptByActions State.PpuOk where
  update _ h := h.of_same rfl rfl
  input h := h.takeHostInput
  divider h := h.of_same rfl rfl
  write _ v h := h.writePlace _ v
  devices h := h.deviceCycle

end State.PpuOk

/-- Settles O44: each action of a step keeps the ranges. -/
theorem ppuInvariantKept : Obligations.ppuInvariantKept := fun _ _ hs h => State.PpuOk.keptByActions.step h hs

end Sys2Proof.Machine

/-! ## The timer (61_timer) -/

namespace Sys2Proof.Machine

/-- The address of a register of both modes leads to it (20_memory R91). -/
theorem State.place_ioBoth (s : State) {k : Nat} {r : IoReg} (hk : k < 0x80) (hr : ioRegBoth k = some r) :
    s.place (BitVec.ofNat 16 (0xFF00 + k)) = .io r := by
  have haddr : (BitVec.ofNat 16 (0xFF00 + k)).toNat = 0xFF00 + k := by simp; omega
  have hreg : ioRegAt s.cfg.hwMode k = some r := by
    cases s.cfg.hwMode with
    | dmg => exact hr
    | cgb => simp [ioRegAt, hr]
  simp (disch := omega) only [State.place, haddr, if_neg, if_pos, Nat.add_sub_cancel_left, hreg]

/-- DIV reads as the top byte of the divider (61_timer R481). -/
theorem State.busRead_div (s : State) : s.busRead 0xFF04 = s.timer.div.extractLsb' 8 8 :=
  congrArg (s.readPlace true) (s.place_ioBoth (k := 0x04) (by decide) rfl)

theorem Timer.countDiv_div (t : Timer) : t.countDiv.div = t.div + 1 :=
  (Timer.fallingEdge_kept { t with div := t.div + 1 } t.input).1

/-- A timer cycle, and the request of a reload that ends (61_timer R486, R487). -/
theorem State.timerTick_eq (s : State) :
    s.timerTick = { s with
      timer := s.timer.countReload.countDiv
      irq.ifl := if s.timer.reloadDelay = 1 then s.irq.ifl ||| 4#5 else s.irq.ifl } := by
  rw [State.timerTick, State.requestIf_eq]
  simp only [decide_eq_true_eq]
  rfl

/-- Of a device cycle the timer sees its own part alone (60_exceptions R449). -/
theorem State.deviceCycle_timer (s : State) : s.deviceCycle.timer = s.timerTick.timer := by
  rw [State.deviceCycle, State.hdmaTick_changes, State.serialTick_changes, State.ppuTick_changes]

theorem State.deviceCycle_div (s : State) : s.deviceCycle.timer.div = s.timer.div + 1 := by
  rw [State.deviceCycle_timer, State.timerTick_eq]
  exact (Timer.countDiv_div _).trans (by rw [Timer.countReload_eq])

/-- Settles O52, by induction on the number of cycles. -/
theorem dividerCountsDeviceCycles : Obligations.dividerCountsDeviceCycles := by
  intro s n
  have hcount : (s.deviceCycles n).timer.div.toNat = (s.timer.div.toNat + n) % 65536 := by
    induction n with
    | zero => exact (Nat.mod_eq_of_lt s.timer.div.isLt).symm
    | succ n ih =>
      rw [State.deviceCycles, State.deviceCycle_div]
      bv_omega
  refine ⟨hcount, ?_⟩
  rw [State.busRead_div, BitVec.toNat_eq, BitVec.extractLsb'_toNat, hcount, BitVec.toNat_ofNat, Nat.shiftRight_eq_div_pow]
  omega

theorem timerSelect_cases (tac : BitVec 3) :
    timerSelect tac = 9 ∨ timerSelect tac = 3 ∨ timerSelect tac = 5 ∨ timerSelect tac = 7 := by
  unfold timerSelect
  split <;> simp

/-- The selected divider bit falls as all bits up to it turn from 1 to 0 (61_timer R485). -/
theorem Timer.input_falls_iff (t : Timer) :
    t.input = true ∧ Timer.input { t with div := t.div + 1 } = false ↔
      t.tac.getLsbD 2 = true ∧
        t.div.toNat % 2 ^ (timerSelect t.tac + 1) = 2 ^ (timerSelect t.tac + 1) - 1 := by
  have hdiv := t.div.isLt
  have hsucc : (t.div + 1).toNat = (t.div.toNat + 1) % 65536 := BitVec.toNat_add ..
  have hfalls : t.div.getLsbD (timerSelect t.tac) = true ∧ (t.div + 1).getLsbD (timerSelect t.tac) = false ↔
      t.div.toNat % 2 ^ (timerSelect t.tac + 1) = 2 ^ (timerSelect t.tac + 1) - 1 := by
    rcases timerSelect_cases t.tac with h | h | h | h <;> rw [h] <;>
      simp only [BitVec.getLsbD, Nat.testBit_eq_decide_div_mod_eq, hsucc, decide_eq_true_eq, decide_eq_false_iff_not] <;>
      omega
  rw [← hfalls]
  simp only [Timer.input]
  generalize t.tac.getLsbD 2 = enabled
  cases enabled <;> simp

/-- Settles O53: the reload's part of a cycle, and then the divider's with its falling edge. -/
theorem timerCountsAndReloads : Obligations.timerCountsAndReloads := by
  intro s t bit base falls ht hbit hbase hfalls
  obtain rfl : bit = timerSelect s.timer.tac := hbit
  have hreload := s.timer.countReload_eq
  rw [← hbase] at hreload
  rw [ht, State.timerTick_eq, hreload]
  have hedge := Timer.input_falls_iff { s.timer with tima := base, reloadDelay := s.timer.reloadDelay - 1 }
  rw [← hfalls] at hedge
  obtain ⟨hdiv, htma, htac⟩ := Timer.fallingEdge_kept
    { s.timer with tima := base, reloadDelay := s.timer.reloadDelay - 1, div := s.timer.div + 1 } s.timer.input
  obtain ⟨hstays, hcounts, hoverflows⟩ := Timer.fallingEdge_counts
    { s.timer with tima := base, reloadDelay := s.timer.reloadDelay - 1, div := s.timer.div + 1 } s.timer.input
  exact ⟨hdiv, htma, htac, fun hno => hstays (mt hedge.1 hno), fun hf => hcounts (hedge.2 hf),
    fun hf => hoverflows (hedge.2 hf), fun hend => if_pos hend, fun hne => congrArg (Irq.mk s.irq.ie) (if_neg hne), rfl⟩

end Sys2Proof.Machine

/-! ## The PPU (62_ppu) -/

namespace Sys2Proof.Machine

/-! ### The position and what a dot makes of it -/

/-- The counters' part of a dot leaves alone what the STAT line depends on besides the position. -/
theorem State.dotAdvanced_kept (s : State) :
    s.dotAdvanced.ppu.lcdOn = s.ppu.lcdOn ∧ s.dotAdvanced.ppu.statEn = s.ppu.statEn ∧
      s.dotAdvanced.ppu.lyc = s.ppu.lyc ∧ s.dotAdvanced.ppu.statLine = s.ppu.statLine := by
  rw [State.dotAdvanced, Ppu.advanceDot_changes]
  exact ⟨rfl, rfl, rfl, rfl⟩

/-- One dot on in a frame of 154 lines of 456 dots (62_ppu R512). -/
theorem State.dotAdvanced_position {s : State} (hline : s.ppu.ly < 154) (hdot : s.ppu.dot < 456) :
    456 * s.dotAdvanced.ppu.ly + s.dotAdvanced.ppu.dot = (456 * s.ppu.ly + s.ppu.dot + 1) % 70224 ∧
      s.dotAdvanced.ppu.ly < 154 ∧ s.dotAdvanced.ppu.dot < 456 := by
  by_cases hlast : s.ppu.dot + 1 = 456
  · rw [State.dotAdvanced_of_last hlast]
    dsimp only
    omega
  · rw [State.dotAdvanced_of_ne_last hlast]
    dsimp only
    omega

/-- A dot writes neither the configuration nor the buttons. -/
theorem State.modeEntered_cfg (s : State) : s.modeEntered.cfg = s.cfg := by
  obtain ⟨h, -⟩ | ⟨m, h, -⟩ := s.modeEntered_cases <;> rw [h]
  · rfl
  · rw [State.enterMode_eq]; rfl

theorem State.modeEntered_ppuMode (s : State) : s.modeEntered.ppuMode = s.dotAdvanced.ppuMode := by
  rw [State.ppuMode, s.modeEntered_cfg, s.modeEntered_registers.mode]
  rfl

/-- With the LCD on a dot ends at the advanced position (62_ppu R514). -/
theorem State.ppuTick_position {s : State} (hon : s.ppu.lcdOn = true) :
    s.ppuTick.ppu.ly = s.dotAdvanced.ppu.ly ∧ s.ppuTick.ppu.dot = s.dotAdvanced.ppu.dot ∧
      s.ppuTick.ppu.lcdOn = true ∧ s.ppuTick.ppuMode = s.dotAdvanced.ppuMode := by
  have hregs := s.modeEntered_registers
  rw [State.ppuTick_of_lcdOn hon, State.evalStatLine_eq]
  exact ⟨hregs.ly, hregs.dot, hregs.lcdOn.trans (s.dotAdvanced_kept.1.trans hon), s.modeEntered_ppuMode⟩

/-- Of a device cycle the PPU sees its own part alone (60_exceptions R449). -/
theorem State.deviceCycle_ppu (s : State) : s.deviceCycle.ppu = s.timerTick.ppuTick.ppu := by
  rw [State.deviceCycle, State.hdmaTick_changes, State.serialTick_changes]

theorem State.timerTick_ppu (s : State) : s.timerTick.ppu = s.ppu := by
  rw [State.timerTick_changes]

/-- With the LCD on a device cycle is a dot (62_ppu R512). -/
theorem State.deviceCycle_position {s : State} (hon : s.ppu.lcdOn = true) (hline : s.ppu.ly < 154) (hdot : s.ppu.dot < 456) :
    456 * s.deviceCycle.ppu.ly + s.deviceCycle.ppu.dot = (456 * s.ppu.ly + s.ppu.dot + 1) % 70224 ∧
      s.deviceCycle.ppu.ly < 154 ∧ s.deviceCycle.ppu.dot < 456 ∧ s.deviceCycle.ppu.lcdOn = true := by
  rw [State.deviceCycle_ppu]
  rw [← s.timerTick_ppu] at *
  obtain ⟨hly, hd, hlcd, -⟩ := State.ppuTick_position hon
  obtain ⟨hpos, hline', hdot'⟩ := State.dotAdvanced_position hline hdot
  rw [hly, hd]
  exact ⟨hpos, hline', hdot', hlcd⟩

/-- V-blank is a line from 144 on (62_ppu R513). -/
theorem Ppu.mode_eq_vblank_iff (p : Ppu) (n : Nat) : p.mode n = .vblank ↔ p.lcdOn = true ∧ 144 ≤ p.ly := by
  unfold Ppu.mode
  split_ifs <;> simp_all

/-- V-blank is entered at the first dot of line 144 (62_ppu R514). -/
theorem State.enters_vblank_iff {s : State} (hon : s.ppu.lcdOn = true) (hline : s.ppu.ly < 154) (hdot : s.ppu.dot < 456) :
    s.enters .vblank ↔ s.dotAdvanced.ppu.ly = 144 ∧ s.dotAdvanced.ppu.dot = 0 := by
  have hadv : s.dotAdvanced.ppu.lcdOn = true := s.dotAdvanced_kept.1.trans hon
  simp only [State.enters, State.ppuMode, ne_eq, Ppu.mode_eq_vblank_iff, hon, hadv, true_and]
  by_cases hlast : s.ppu.dot + 1 = 456
  · rw [State.dotAdvanced_of_last hlast]
    dsimp only
    omega
  · rw [State.dotAdvanced_of_ne_last hlast]
    dsimp only
    omega

/-- The evaluation of the STAT line writes bit 1 of IF alone. -/
theorem State.evalStatLine_bit (s : State) (k : Nat) :
    s.evalStatLine.irq.ifl.getLsbD k =
      (s.irq.ifl.getLsbD k || (decide (k = 1) && (s.ppu.statLevel s.ppuMode && !s.ppu.statLine))) := by
  have hmask : (2#5).getLsbD k = decide (k = 1) := IrqSource.stat.getLsbD_mask k
  rw [State.evalStatLine_eq]
  cases s.ppu.statLevel s.ppuMode && !s.ppu.statLine <;> simp [hmask]

/-- Settles O54: each device cycle is one dot, and V-blank is entered at the first dot of line 144 alone. -/
theorem framePositionAndVblank : Obligations.framePositionAndVblank := by
  refine ⟨fun s n hon hline hdot => ?position, fun s hon hline hdot => ?vblank⟩
  case position =>
    have hall : 456 * (s.deviceCycles n).ppu.ly + (s.deviceCycles n).ppu.dot = (456 * s.ppu.ly + s.ppu.dot + n) % 70224 ∧
        (s.deviceCycles n).ppu.ly < 154 ∧ (s.deviceCycles n).ppu.dot < 456 ∧ (s.deviceCycles n).ppu.lcdOn = true := by
      induction n with
      | zero => exact ⟨(Nat.mod_eq_of_lt (show 456 * s.ppu.ly + s.ppu.dot < 70224 by omega)).symm, hline, hdot, hon⟩
      | succ n ih =>
        obtain ⟨hpos, hline', hdot', hon'⟩ := ih
        obtain ⟨hnext, hrest⟩ := State.deviceCycle_position hon' hline' hdot'
        exact ⟨hnext.trans (by omega), hrest⟩
    obtain ⟨hpos, -, hrest⟩ := hall
    exact ⟨hpos, hrest⟩
  case vblank =>
    obtain ⟨hly, hd, -, -⟩ := State.ppuTick_position hon
    obtain ⟨hyes, hno, -⟩ := s.modeEntered_outputs
    have hframes : s.ppuTick.host.frames = s.modeEntered.host.frames := by
      rw [State.ppuTick_of_lcdOn hon, State.evalStatLine_eq]
    have hbit : s.ppuTick.irq.ifl.getLsbD 0 = s.modeEntered.irq.ifl.getLsbD 0 := by
      rw [State.ppuTick_of_lcdOn hon, State.evalStatLine_bit]
      exact Bool.or_false _
    rw [hly, hd, ← State.enters_vblank_iff hon hline hdot, hframes, hbit]
    refine ⟨fun henters => ?_, fun henters => ?_⟩
    · obtain ⟨hifl, hfr⟩ := hyes henters
      exact ⟨by simp [hifl], hfr⟩
    · obtain ⟨hifl, hfr⟩ := hno henters
      exact ⟨by rw [hifl], hfr⟩

/-! ### The STAT line -/

/-- The level of the STAT line is the OR of the enabled sources (62_ppu R517). -/
theorem Ppu.statLevel_iff (p : Ppu) (m : PpuMode) :
    p.statLevel m = true ↔
      (p.statEn.getLsbD 0 = true ∧ m = .hblank) ∨ (p.statEn.getLsbD 1 = true ∧ m = .vblank) ∨
        (p.statEn.getLsbD 2 = true ∧ m = .oamScan) ∨ (p.statEn.getLsbD 3 = true ∧ p.ly = p.lyc.toNat) := by
  simp only [Ppu.statLevel, Ppu.coincidence, Bool.or_eq_true, Bool.and_eq_true, decide_eq_true_eq, or_assoc]

/-- Settles O55: a dot ends with the evaluation of the line at the new position, from the line before the dot. -/
theorem statRequestOnRisingEdge : Obligations.statRequestOnRisingEdge := by
  rintro s t hon rfl
  obtain ⟨hly, -, -, hmode⟩ := State.ppuTick_position hon
  obtain ⟨-, hen, hlyc, hline⟩ := s.dotAdvanced_kept
  have hlevel : s.ppuTick.ppu.statLine = s.dotAdvanced.ppu.statLevel s.dotAdvanced.ppuMode := by
    rw [State.ppuTick_of_lcdOn hon, State.evalStatLine_eq, ← s.modeEntered_ppuMode]
    exact s.modeEntered_registers.statLevel _
  refine ⟨?_, ?_⟩
  · rw [hlevel, Ppu.statLevel_iff, hen, hlyc, hmode, hly]
  · have hifl : s.modeEntered.irq.ifl.getLsbD 1 = s.irq.ifl.getLsbD 1 := by
      obtain ⟨hyes, hno, -⟩ := s.modeEntered_outputs
      by_cases henters : s.enters .vblank
      · rw [(hyes henters).1]; simp
      · rw [(hno henters).1]
    rw [State.ppuTick_of_lcdOn hon] at hlevel ⊢
    rw [State.evalStatLine_bit, hifl, s.modeEntered_registers.statLine, hline]
    simp [State.evalStatLine_eq]

/-! ### Sprites -/

/-- A list's elements that a `take` leaves out come after those it keeps, in a rising list. -/
theorem take_full_of_not_mem {l : List Nat} (hl : l.Pairwise (· < ·)) {n i : Nat} (hi : i ∈ l) (hout : i ∉ l.take n) :
    (l.take n).length = n ∧ ∀ j ∈ l.take n, j < i := by
  rw [← List.take_append_drop n l] at hl hi
  have hdrop : i ∈ l.drop n := (List.mem_append.1 hi).resolve_left hout
  refine ⟨?_, fun j hj => (List.pairwise_append.1 hl).2.2 j hj i hdrop⟩
  have hlen := List.length_pos_of_mem hdrop
  rw [List.length_drop] at hlen
  rw [List.length_take]
  omega

/-- The sprites that meet the current line (62_ppu R520). -/
theorem State.spriteOnLine_iff (s : State) (i : Nat) :
    s.spriteOnLine i = true ↔ (Memory.read s.oam (4 * i)).toNat ≤ s.ppu.ly + 16 ∧
      s.ppu.ly + 16 < (Memory.read s.oam (4 * i)).toNat + (if s.ppu.lcdc.getLsbD 2 then 16 else 8) :=
  decide_eq_true_iff

/-- `p` is drawn before `q`: the smaller X, then the smaller OAM index (62_ppu R526). -/
def ObjPixel.before (p q : ObjPixel) : Prop := p.x < q.x ∨ (p.x = q.x ∧ p.index ≤ q.index)

theorem ObjPixel.before_refl (p : ObjPixel) : p.before p := .inr ⟨rfl, le_rfl⟩

theorem ObjPixel.before_trans {p q r : ObjPixel} (h : p.before q) (h' : q.before r) : p.before r := by
  unfold ObjPixel.before at *
  omega

/-- The better of two pixels is one of them and is drawn before both (62_ppu R526). -/
theorem ObjPixel.better_spec (p q : ObjPixel) :
    (p.better q = p ∨ p.better q = q) ∧ (p.better q).before p ∧ (p.better q).before q := by
  unfold ObjPixel.better ObjPixel.before
  split
  · exact ⟨.inr rfl, by omega, by omega⟩
  · exact ⟨.inl rfl, by omega, by omega⟩

/-- The better of the best pixel so far, if any, and the next (62_ppu R526). -/
def betterOf (best : Option ObjPixel) (q : ObjPixel) : Option ObjPixel :=
  match best with
  | none => some q
  | some p => some (p.better q)

/-- From a first pixel on, the fold finds the one of the list that is drawn before all others. -/
theorem foldl_betterOf_some (l : List ObjPixel) (p : ObjPixel) :
    ∃ o, l.foldl betterOf (some p) = some o ∧ o ∈ p :: l ∧ ∀ q ∈ p :: l, o.before q := by
  induction l generalizing p with
  | nil => exact ⟨p, rfl, List.mem_cons_self .., by simpa using p.before_refl⟩
  | cons r l ih =>
    obtain ⟨o, ho, hmem, hbest⟩ := ih (p.better r)
    obtain ⟨hone, hp, hr⟩ := p.better_spec r
    have hfirst : o.before (p.better r) := hbest _ (List.mem_cons_self ..)
    refine ⟨o, ho, ?_, ?_⟩
    · rcases hone with h | h <;> rw [h] at hmem <;> simp at hmem ⊢ <;> tauto
    · simp only [List.mem_cons, forall_eq_or_imp] at hbest ⊢
      exact ⟨ObjPixel.before_trans hfirst hp, ObjPixel.before_trans hfirst hr, hbest.2⟩

theorem State.winningObj_eq (s : State) (x : Nat) :
    s.winningObj x = (s.ppu.lineSprites.filterMap (fun i => s.objPixel i x)).foldl betterOf none := rfl

/-- Settles O56: the first ten of a rising list, and the fold over the line's opaque pixels. -/
theorem spriteSelectionAndPriority : Obligations.spriteSelectionAndPriority := by
  refine ⟨?selection, fun s x => ?priority⟩
  case selection =>
    rintro s l rfl
    have hsorted : ((List.range 40).filter s.spriteOnLine).Pairwise (· < ·) := List.pairwise_lt_range.filter _
    refine ⟨List.length_take_le 10 _, hsorted.sublist (List.take_sublist 10 _), fun i hi => ?_, fun i hi hlow hhigh hout => ?_⟩
    · obtain ⟨hrange, hline⟩ := List.mem_filter.1 (List.mem_of_mem_take hi)
      exact ⟨List.mem_range.1 hrange, (s.spriteOnLine_iff i).1 hline⟩
    · exact take_full_of_not_mem hsorted
        (List.mem_filter.2 ⟨List.mem_range.2 hi, (s.spriteOnLine_iff i).2 ⟨hlow, hhigh⟩⟩) hout
  case priority =>
    have hmem (p : ObjPixel) : p ∈ s.ppu.lineSprites.filterMap (fun i => s.objPixel i x) ↔
        ∃ i ∈ s.ppu.lineSprites, s.objPixel i x = some p := List.mem_filterMap
    have hnone : s.ppu.lineSprites.filterMap (fun i => s.objPixel i x) = [] ↔
        ∀ i ∈ s.ppu.lineSprites, s.objPixel i x = none := List.filterMap_eq_nil_iff
    rw [s.winningObj_eq, ← hnone]
    cases hl : s.ppu.lineSprites.filterMap (fun i => s.objPixel i x) with
    | nil => simp
    | cons p l =>
      rw [hl] at hmem
      obtain ⟨o, ho, hin, hbest⟩ := foldl_betterOf_some l p
      have hfold : (p :: l).foldl betterOf none = some o := ho
      rw [hfold]
      refine ⟨?_, by simp⟩
      rintro _ ⟨⟩
      exact ⟨(hmem o).1 hin, fun i hi q hq => hbest q ((hmem q).2 ⟨i, hi, hq⟩)⟩

end Sys2Proof.Machine

/-! ## The joypad, the serial port and the DMA engines (63_io_devices) -/

namespace Sys2Proof.Machine

/-! ### The joypad -/

theorem State.busRead_p1 (s : State) : s.busRead 0xFF00 = s.p1Read :=
  congrArg (s.readPlace true) (s.place_ioBoth (k := 0x00) (by decide) rfl)

theorem State.busWrite_p1 (s : State) (v : Byte) : s.busWrite 0xFF00 v = s.p1Write v :=
  congrArg (s.writePlace · v) (s.place_ioBoth (k := 0x00) (by decide) rfl)

/-- A line is 0 exactly if its button of a selected group is pressed (63_io_devices R570). -/
theorem State.lines_low_iff (s : State) {k : Nat} (hk : k < 4) :
    s.lines.getLsbD k = false ↔
      (s.joypad.joySel.getLsbD 0 = false ∧ s.host.pressed.dirPressed.getLsbD k = true) ∨
        (s.joypad.joySel.getLsbD 1 = false ∧ s.host.pressed.actPressed.getLsbD k = true) := by
  have hones : (0xF#4).getLsbD k = true := by interval_cases k <;> rfl
  have hgroup (unselected : Bool) (pressed : BitVec 4) :
      (if unselected then 0#4 else pressed).getLsbD k = true ↔ unselected = false ∧ pressed.getLsbD k = true := by
    cases unselected <;> simp
  simp only [State.lines, BitVec.getLsbD_and, BitVec.getLsbD_not, hones, hk, decide_true, Bool.true_and,
    Bool.and_eq_false_iff, Bool.not_eq_false', hgroup]

/-- A line falls if it is 1 before and 0 after (63_io_devices R571). -/
theorem fallen_ne_zero_iff (x y : BitVec 4) :
    x &&& ~~~y ≠ 0#4 ↔ ∃ k, k < 4 ∧ x.getLsbD k = true ∧ y.getLsbD k = false := by
  have hbit {k : Nat} (hk : k < 4) : (x &&& ~~~y).getLsbD k = false ↔ (x.getLsbD k = true → y.getLsbD k = true) := by
    simp only [BitVec.getLsbD_and, BitVec.getLsbD_not, hk, decide_true, Bool.true_and]
    cases x.getLsbD k <;> simp
  rw [← not_iff_not, not_not, BitVec.eq_of_getLsbD_eq_iff]
  push Not
  refine forall_congr' fun k => imp_congr_right fun hk => ?_
  rw [BitVec.getLsbD_zero, hbit hk, ne_eq, Bool.not_eq_false]

/-- After an evaluation the lines are current and a fallen one has made the request (63_io_devices R570, R571). -/
theorem State.evalJoypad_shows {u t : State} (ht : t = u.evalJoypad) :
    t.busRead 0xFF00 = 0b11#2 ++ t.joypad.joySel ++ t.joypad.joyLines ∧ t.joypad.joyLines = t.lines ∧
      ((∃ k, k < 4 ∧ u.joypad.joyLines.getLsbD k = true ∧ t.joypad.joyLines.getLsbD k = false) →
        t.irq.ifl = u.irq.ifl ||| 16#5) ∧
      ((∀ k, k < 4 → u.joypad.joyLines.getLsbD k = true → t.joypad.joyLines.getLsbD k = true) → t.irq = u.irq) := by
  rw [State.evalJoypad_eq] at ht
  subst ht
  rw [State.busRead_p1]
  refine ⟨rfl, rfl, fun hfall => if_pos ((fallen_ne_zero_iff _ _).2 hfall), fun hkept => ?_⟩
  refine congrArg (Irq.mk u.irq.ie) (if_neg (mt (fallen_ne_zero_iff _ _).1 ?_))
  rintro ⟨k, hk, hhigh, hlow⟩
  exact Bool.false_ne_true (hlow.symm.trans (hkept k hk hhigh))

/-- Settles O57: both events store their part of the state and then evaluate the lines. -/
theorem joypadLinesAndRequest : Obligations.joypadLinesAndRequest := by
  refine ⟨?write, ?host, ?lines⟩
  case write =>
    rintro s _ v rfl
    rw [State.busWrite_p1, State.p1Write, State.evalJoypad_eq]
    exact ⟨rfl, rfl⟩
  case host =>
    rintro s _ b rfl
    rw [State.setButtons, State.evalJoypad_eq]
    exact ⟨rfl, rfl⟩
  case lines =>
    intro s t v b h
    have hshows (u : State) (hlines : u.joypad.joyLines = s.joypad.joyLines) (hirq : u.irq = s.irq)
        (ht : t = u.evalJoypad) := by
      have := State.evalJoypad_shows ht
      rwa [hlines, hirq] at this
    have hboth : _ := h.elim
      (fun hw => hshows { s with joypad.joySel := v.extractLsb' 4 2 } rfl rfl (hw.trans (s.busWrite_p1 v)))
      (fun hb => hshows { s with host.pressed := b } rfl rfl hb)
    obtain ⟨hread, hcurrent, hfall, hkept⟩ := hboth
    exact ⟨hread, hcurrent, fun k hk => t.lines_low_iff hk, hfall, hkept⟩

/-! ### The serial port -/

theorem State.busWrite_sc (s : State) (v : Byte) : s.busWrite 0xFF02 v = s.scWrite v :=
  congrArg (s.writePlace · v) (s.place_ioBoth (k := 0x02) (by decide) rfl)

/-- Of a device cycle the serial port sees its own part alone (60_exceptions R449). -/
theorem State.deviceCycle_serial (s : State) :
    s.timerTick.ppuTick.serial = s.serial ∧ s.deviceCycle.serial = s.timerTick.ppuTick.serialTick.serial ∧
      s.deviceCycle.irq = s.timerTick.ppuTick.serialTick.irq := by
  refine ⟨by rw [State.ppuTick_changes, State.timerTick_changes], ?_, ?_⟩ <;>
    rw [State.deviceCycle, State.hdmaTick_changes]

/-- Without a transfer no device cycle touches the serial port (63_io_devices R574). -/
theorem State.deviceCycle_serial_of_idle {s : State} (h : s.serial.count = 0) : s.deviceCycle.serial = s.serial := by
  obtain ⟨hkept, hserial, -⟩ := s.deviceCycle_serial
  rw [← hkept] at h
  rw [hserial, State.serialTick_of_idle h, hkept]

/-- Within a transfer a device cycle counts (63_io_devices R574). -/
theorem State.deviceCycle_serial_of_busy {s : State} (h : 1 < s.serial.count) :
    s.deviceCycle.serial = { s.serial with count := s.serial.count - 1 } := by
  obtain ⟨hkept, hserial, -⟩ := s.deviceCycle_serial
  rw [← hkept] at h
  rw [hserial, State.serialTick_of_busy h, hkept]

/-- The last device cycle of a transfer completes it (63_io_devices R574). -/
theorem State.deviceCycle_serial_of_last {s : State} (h : s.serial.count = 1) :
    s.deviceCycle.serial = { sb := 0xFF, sc := s.serial.sc &&& 0x7F#8, count := 0 } ∧
      s.deviceCycle.irq.ifl.getLsbD 3 = true := by
  obtain ⟨hkept, hserial, hirq⟩ := s.deviceCycle_serial
  rw [← hkept] at h
  rw [hserial, hirq, State.serialTick_of_last h, hkept]
  refine ⟨rfl, ?_⟩
  rw [State.request, BitVec.getLsbD_or, IrqSource.serial.getLsbD_mask 3]
  exact Bool.or_true _

/-- Bit 7 of a written SC is stored in both modes (63_io_devices R573). -/
theorem scStored_bit7 (m : HwMode) (v : Byte) : (scStored m v).getLsbD 7 = v.getLsbD 7 := by
  cases m <;> simp [scStored]

/-- Settles O58, by induction on the device cycles since the write of SC. -/
theorem serialTransferCompletes : Obligations.serialTransferCompletes := by
  rintro s t v ht
  rw [State.busWrite_sc, State.scWrite] at ht
  refine ⟨fun hstart => ?started, fun hno => ?notStarted⟩
  case started =>
    have hcount : t.serial.count = 4096 := by simp [ht, hstart]
    have hsc : t.serial.sc.getLsbD 7 = true := by simp [ht, scStored_bit7, hstart]
    have hsb : t.serial.sb = s.serial.sb := by rw [ht]
    have hrun (n : Nat) (hn : n < 4096) : (t.deviceCycles n).serial = { t.serial with count := 4096 - n } := by
      induction n with
      | zero => rw [State.deviceCycles, Nat.sub_zero, ← hcount]
      | succ n ih =>
        specialize ih (by omega)
        have hbusy : 1 < (t.deviceCycles n).serial.count := by rw [ih]; dsimp only; omega
        rw [State.deviceCycles, State.deviceCycle_serial_of_busy hbusy, ih]
        rfl
    have hend : (t.deviceCycles 4095).serial.count = 1 := by rw [hrun 4095 (by decide)]
    obtain ⟨hserial, hifl⟩ := State.deviceCycle_serial_of_last hend
    have hbit := congrArg (fun p : Serial => p.sc.getLsbD 7) hserial
    refine ⟨fun n hn => ?_, ?_, ?_, hifl⟩
    · rw [hrun n hn]
      exact ⟨hsb, hsc, rfl⟩
    · exact congrArg Serial.sb hserial
    · exact hbit.trans (by simp)
  case notStarted =>
    have hcount : t.serial.count = 0 := by simpa [ht] using hno
    refine ⟨hcount, by rw [ht], fun n => ?_⟩
    induction n with
    | zero => rfl
    | succ n ih =>
      rw [← ih] at hcount ⊢
      exact State.deviceCycle_serial_of_idle hcount

end Sys2Proof.Machine

/-! ## The DMA engines (63_io_devices) -/

namespace Sys2Proof.Machine

/-! ### OAM DMA -/

theorem State.busRead_dma (s : State) : s.busRead 0xFF46 = s.dmaReg :=
  congrArg (s.readPlace true) (s.place_ioBoth (k := 0x46) (by decide) rfl)

theorem State.busWrite_dma (s : State) (v : Byte) : s.busWrite 0xFF46 v = s.oamDma v := by
  have hplace : s.place 0xFF46 = .io .dma := s.place_ioBoth (k := 0x46) (by decide) rfl
  rw [State.busWrite, hplace, State.writePlace, State.ioWrite]

/-- Below 0xE000 there are ROM, VRAM, cartridge RAM and WRAM (20_memory R81). -/
theorem State.place_of_lt (s : State) {a : Word} (h : a.toNat < 0xE000) :
    s.place a = .rom a.toNat ∨ (0x8000 ≤ a.toNat ∧ s.place a = .vram (s.vramIndex a.toNat)) ∨
      s.place a = .cartRam a.toNat ∨ s.place a = .wram (s.wramIndex a.toNat) := by
  simp only [State.place, h, if_true]
  split
  · exact .inl rfl
  · split
    · exact .inr (.inl ⟨by omega, rfl⟩)
    · split
      · exact .inr (.inr (.inl rfl))
      · exact .inr (.inr (.inr rfl))

/-- Below 0xE000 a DMA read sees neither OAM nor the DMA register (63_io_devices R576). -/
theorem State.dmaRead_of_oam (s : State) (oam : Memory) (v : Byte) {a : Word} (h : a.toNat < 0xE000) :
    State.dmaRead { s with oam := oam, dmaReg := v } a = s.dmaRead a := by
  have hplace : State.place { s with oam := oam, dmaReg := v } a = s.place a := rfl
  rw [State.dmaRead, State.dmaRead, hplace]
  obtain hp | ⟨-, hp⟩ | hp | hp := s.place_of_lt h <;> rw [hp] <;> rfl

/-- What a copy from below 0xE000 stores (63_io_devices R576). -/
theorem State.oamCopy_read (s : State) (src : Word) (n : Nat)
    (hsrc : ∀ i < n, (src + BitVec.ofNat 16 i).toNat < 0xE000) (i : Nat) :
    Memory.read (s.oamCopy src n).oam i =
      if i < n then s.dmaRead (src + BitVec.ofNat 16 i) else Memory.read s.oam i := by
  induction n with
  | zero => rfl
  | succ n ih =>
    have hread : (s.oamCopy src n).dmaRead (src + BitVec.ofNat 16 n) = s.dmaRead (src + BitVec.ofNat 16 n) := by
      rw [State.oamCopy_changes]
      exact s.dmaRead_of_oam _ s.dmaReg (hsrc n (Nat.lt_succ_self n))
    have hstored : (s.oamCopy src (n + 1)).oam =
        Memory.write (s.oamCopy src n).oam n ((s.oamCopy src n).dmaRead (src + BitVec.ofNat 16 n)) := rfl
    rw [hstored, hread, Memory.read_write, ih fun j hj => hsrc j (by omega)]
    by_cases hlast : i = n
    · simp [hlast]
    · simp only [hlast, if_false, show i < n + 1 ↔ i < n by omega]

/-- The source addresses are those of page `v`, folded below 0xE000 (63_io_devices R576). -/
theorem oamDmaSource_add (v : Byte) {i : Nat} (hi : i < 160) :
    (oamDmaSource v + BitVec.ofNat 16 i).toNat = (if 0xE0 ≤ v.toNat then v.toNat - 0x20 else v.toNat) * 256 + i := by
  have hpage : (v ++ 0#8).toNat = v.toNat * 256 := by simp [append_byte_toNat]
  have hv := v.isLt
  unfold oamDmaSource
  generalize v ++ 0#8 = page at hpage
  split_ifs <;> bv_omega

/-- Settles O59: the sources lie below 0xE000, so no byte of the copy is read back. -/
theorem oamDmaCopies : Obligations.oamDmaCopies := by
  rintro s t v ht
  rw [State.busWrite_dma, State.oamDma] at ht
  have hlow {i : Nat} (hi : i < 160) : (oamDmaSource v + BitVec.ofNat 16 i).toNat < 0xE000 := by
    have hv := v.isLt
    rw [oamDmaSource_add v hi]
    split_ifs <;> omega
  have hread := State.oamCopy_read { s with dmaReg := v } (oamDmaSource v) 160 fun i hi => hlow hi
  have hchanges := State.oamCopy_changes { s with dmaReg := v } (oamDmaSource v) 160
  rw [← ht] at hread hchanges
  refine ⟨fun i hi => ?_, fun i hi => ?_, hchanges, ?_⟩
  · have haddr := BitVec.eq_of_toNat_eq (x := oamDmaSource v + BitVec.ofNat 16 i)
        (y := BitVec.ofNat 16 ((if 0xE0 ≤ v.toNat then v.toNat - 0x20 else v.toNat) * 256 + i)) <| by
      have hfit := hlow hi
      rw [oamDmaSource_add v hi] at hfit ⊢
      rw [BitVec.toNat_ofNat, Nat.mod_eq_of_lt (by omega)]
    rw [hread i, if_pos hi, ← haddr]
    exact s.dmaRead_of_oam s.oam v (hlow hi)
  · rw [hread i, if_neg (by omega)]
  · rw [State.busRead_dma, hchanges]

/-! ### HDMA blocks -/

/-- A DMA read sees of VRAM the byte at its address and of the HDMA engine what HDMA5 shows (63_io_devices R576, R580). -/
theorem State.dmaRead_of_hdma {s : State} {m : Memory} {h : Hdma} {a : Word} (hlen : h.len = s.hdma.len)
    (hactive : h.active = s.hdma.active) (hvram : ∀ k, s.place a = .vram k → Memory.read m k = Memory.read s.vram k) :
    State.dmaRead { s with vram := m, hdma := h } a = s.dmaRead a := by
  have hplace : State.place { s with vram := m, hdma := h } a = s.place a := rfl
  rw [State.dmaRead, State.dmaRead, hplace]
  cases hp : s.place a with
  | vram k => exact hvram k hp
  | io r =>
    cases r with
    | hdma5 => simp only [State.readPlace, State.ioRead, hlen, hactive]
    | _ => rfl
  | _ => rfl

/-- Copying bytes leaves the length and the activity alone (63_io_devices R577). -/
theorem State.hdmaBytes_kept (s : State) (n : Nat) :
    (s.hdmaBytes n).hdma.len = s.hdma.len ∧ (s.hdmaBytes n).hdma.active = s.hdma.active := by
  induction n with
  | zero => exact ⟨rfl, rfl⟩
  | succ n ih => exact ih

/-- The first VRAM cell of a block (63_io_devices R577). -/
def State.blockBase (s : State) : Nat := s.vbk.toNat * 0x2000 + s.hdma.dst.toNat

/-- What the first `n` bytes of a block store: a byte that a later one reads has not been written (63_io_devices R577). -/
theorem State.hdmaBytes_read {s : State} (h : s.hdma.aligned) {n : Nat} (hn : n ≤ 16) (k : Nat) :
    Memory.read (s.hdmaBytes n).vram k =
      if s.blockBase ≤ k ∧ k < s.blockBase + n then s.dmaRead (s.hdma.src + BitVec.ofNat 16 (k - s.blockBase))
      else Memory.read s.vram k := by
  obtain ⟨hsrc, hdst⟩ := (Hdma.aligned_iff _).1 h
  have hbase : s.blockBase % 16 = 0 := by unfold State.blockBase; omega
  induction n generalizing k with
  | zero => rw [if_neg (by omega)]; rfl
  | succ n ih =>
    specialize ih (by omega)
    obtain ⟨hsrc', hdst'⟩ := s.hdmaBytes_addresses n
    obtain ⟨hlen, hactive⟩ := s.hdmaBytes_kept n
    have hread : (s.hdmaBytes n).dmaRead (s.hdma.src + BitVec.ofNat 16 n) = s.dmaRead (s.hdma.src + BitVec.ofNat 16 n) := by
      rw [s.hdmaBytes_changes n]
      refine State.dmaRead_of_hdma hlen hactive fun j hj => ?_
      have hmod := s.place_locates (s.hdma.src + BitVec.ofNat 16 n)
      rw [hj, Place.locates] at hmod
      rw [ih j, if_neg]
      bv_omega
    have hcell : (s.hdmaBytes n).vbk.toNat * 0x2000 + (s.hdmaBytes n).hdma.dst.toNat = s.blockBase + n := by
      have hvbk : (s.hdmaBytes n).vbk = s.vbk := by rw [s.hdmaBytes_changes n]
      have hfit : (s.hdma.dst + BitVec.ofNat 13 n).toNat = s.hdma.dst.toNat + n := by bv_omega
      rw [hvbk, hdst', hfit, State.blockBase]
      omega
    rw [State.hdmaBytes, State.hdmaByte]
    dsimp only
    rw [hcell, hsrc', hread, Memory.read_write, ih k]
    by_cases hlast : k = s.blockBase + n
    · simp [hlast]
    · simp only [hlast, if_false]
      refine if_congr (by omega) rfl rfl

/-- A block is copied as HDMA describes it (63_io_devices R577). -/
theorem State.copyBlock_copied {s : State} (h : s.hdma.aligned) : s.copiedBlock s.copyBlock := by
  have hread := State.hdmaBytes_read h (le_refl 16)
  refine ⟨fun i hi => ?_, fun k hk => ?_, s.hdmaBytes_addresses 16⟩
  · exact (hread (s.blockBase + i)).trans (by rw [if_pos (by omega), Nat.add_sub_cancel_left])
  · exact (hread k).trans (if_neg (by simp only [State.blockBase]; omega))

theorem State.copyBlock_kept (s : State) :
    s.copyBlock.hdma.len = s.hdma.len ∧ s.copyBlock.hdma.active = s.hdma.active := s.hdmaBytes_kept 16

/-- A block changes VRAM and the two addresses alone (63_io_devices R577). -/
theorem State.copyBlock_eq (s : State) :
    s.copyBlock = { s with
      vram := s.copyBlock.vram, hdma.src := s.copyBlock.hdma.src, hdma.dst := s.copyBlock.hdma.dst } := by
  have hchanges := s.copyBlock_changes
  obtain ⟨hlen, hactive⟩ := s.copyBlock_kept
  generalize s.copyBlock = t at hchanges hlen hactive ⊢
  generalize t.vram = vram at hchanges ⊢
  generalize t.hdma = hdma at hchanges hlen hactive ⊢
  obtain ⟨src, dst, len, active⟩ := hdma
  obtain rfl : len = s.hdma.len := hlen
  obtain rfl : active = s.hdma.active := hactive
  exact hchanges

/-! ### HDMA5 -/

/-- The address of a CGB register leads to it (20_memory R92). -/
theorem State.place_hdma5 {s : State} (h : s.cfg.hwMode = .cgb) : s.place 0xFF55 = .io .hdma5 := by
  simp only [State.place, h]
  rfl

theorem State.busRead_hdma5 {s : State} (h : s.cfg.hwMode = .cgb) : s.busRead 0xFF55 = s.ioRead .hdma5 :=
  congrArg (s.readPlace true) (State.place_hdma5 h)

theorem State.busWrite_hdma5 {s : State} (h : s.cfg.hwMode = .cgb) (v : Byte) : s.busWrite 0xFF55 v = s.hdma5Write v := by
  rw [State.busWrite, State.place_hdma5 h, State.writePlace, State.ioWrite]

/-- The three writes of HDMA5 (63_io_devices R578, R579). -/
theorem State.hdma5Write_cases (s : State) (v : Byte) :
    (v.getLsbD 7 = true → s.hdma5Write v = { s with hdma.len := v.extractLsb' 0 7, hdma.active := true }) ∧
      (v.getLsbD 7 = false → s.hdma.active = true → s.hdma5Write v = { s with hdma.active := false }) ∧
      (v.getLsbD 7 = false → s.hdma.active = false →
        s.hdma5Write v = { State.copyBlock^[v.toNat % 128 + 1] s with hdma.len := 0x7F#7 }) := by
  have hblocks : (v.extractLsb' 0 7).toNat = v.toNat % 128 := by simp
  refine ⟨fun hstart => if_pos hstart, fun hno hactive => ?_, fun hno hidle => ?_⟩
  · rw [State.hdma5Write, if_neg (Bool.eq_false_iff.1 hno), if_pos hactive]
  · rw [State.hdma5Write, if_neg (Bool.eq_false_iff.1 hno), if_neg (Bool.eq_false_iff.1 hidle), hblocks, State.copyBlocks_eq_iterate]
    rfl

/-! ### The H-blank copy -/

/-- A tick with the copy active at an entry into mode 0 (63_io_devices R579). -/
theorem State.hdmaTick_of_entry {s : State} (hactive : s.hdma.active = true) (hentry : s.ppu.hblankEntered = true) :
    s.hdmaTick =
      if s.hdma.len = 0#7 then { s.copyBlock with hdma.active := false, hdma.len := 0x7F }
      else { s.copyBlock with hdma.len := s.hdma.len - 1 } := by
  rw [State.hdmaTick, if_pos (by rw [hactive, hentry]; rfl)]
  dsimp only
  rw [s.copyBlock_kept.1]

/-- What is copied does not depend on the length and the activity. -/
theorem State.copiedBlock.congr {s t u : State} (h : s.copiedBlock t) (hvram : u.vram = t.vram)
    (hsrc : u.hdma.src = t.hdma.src) (hdst : u.hdma.dst = t.hdma.dst) : s.copiedBlock u := by
  rw [State.copiedBlock, hvram, hsrc, hdst]
  exact h

/-- Mode 0 of a visible line follows mode 3 (62_ppu R513). -/
theorem Ppu.mode_eq_hblank_iff {p : Ppu} (hon : p.lcdOn = true) (n : Nat) :
    p.mode n = .hblank ↔ p.ly < 144 ∧ 80 + n ≤ p.dot := by
  unfold Ppu.mode
  split_ifs <;> simp_all
  omega

/-- The PPU marks the entry of a visible line into mode 0 (62_ppu R514). -/
theorem State.ppuTick_hblankEntered (s : State) :
    s.ppuTick.ppu.hblankEntered = true ↔ s.ppu.lcdOn = true ∧ s.enters .hblank ∧ s.dotAdvanced.ppu.ly < 144 := by
  cases hon : s.ppu.lcdOn with
  | false => rw [State.ppuTick_of_lcdOff hon]; simp
  | true =>
    rw [State.ppuTick_of_lcdOn hon, State.evalStatLine_eq]
    simpa using s.modeEntered_outputs.2.2

/-- A visible line enters mode 0 at the first dot after mode 3 (62_ppu R513, R514). -/
theorem State.enters_hblank_iff {s : State} (hon : s.ppu.lcdOn = true) (hlen : 80 + s.cfg.mode3Len < 456)
    (hly : s.dotAdvanced.ppu.ly < 144) : s.enters .hblank ↔ s.dotAdvanced.ppu.dot = 80 + s.cfg.mode3Len := by
  have hadv : s.dotAdvanced.ppu.lcdOn = true := s.dotAdvanced_kept.1.trans hon
  have hcfg : s.dotAdvanced.cfg = s.cfg := rfl
  simp only [State.enters, State.ppuMode, ne_eq, Ppu.mode_eq_hblank_iff hon, Ppu.mode_eq_hblank_iff hadv, hcfg]
  by_cases hlast : s.ppu.dot + 1 = 456
  · rw [State.dotAdvanced_of_last hlast]
    dsimp only
    omega
  · rw [State.dotAdvanced_of_ne_last hlast] at hly ⊢
    dsimp only at hly ⊢
    omega

/-- Settles O60: the block by induction on its bytes, and the PPU's mark by the position before and after the dot. -/
theorem hblankDma : Obligations.hblankDma := by
  refine ⟨?block, ?hdma5, fun cfg d hcgb => ?reset, fun s => rfl, ?tick, ?entry⟩
  case block =>
    rintro s _ haligned rfl
    exact ⟨State.copyBlock_copied haligned, s.copyBlock_eq⟩
  case hdma5 =>
    intro s v hcgb
    rw [State.busRead_hdma5 hcgb, State.busWrite_hdma5 hcgb]
    exact ⟨rfl, s.hdma5Write_cases v⟩
  case reset =>
    obtain ⟨-, -, hdma5, -⟩ := State.resetFor_joinedCgbReads cfg d
    exact (State.busRead_hdma5 hcgb).trans hdma5
  case tick =>
    rintro s t haligned ht
    refine ⟨fun hno => ht.trans (if_neg (by simpa using hno)), fun hactive hentry => ?_⟩
    rw [State.hdmaTick_of_entry hactive hentry] at ht
    have hcopied := State.copyBlock_copied haligned
    have hkept := s.copyBlock_kept.2
    have hchanges := s.copyBlock_changes
    generalize s.copyBlock = u at ht hcopied hkept hchanges
    by_cases hzero : s.hdma.len = 0#7
    · rw [if_pos hzero] at ht
      subst ht
      exact ⟨hcopied.congr rfl rfl rfl, by rw [hchanges], fun _ => ⟨rfl, rfl⟩, fun hne => absurd hzero hne⟩
    · rw [if_neg hzero] at ht
      subst ht
      exact ⟨hcopied.congr rfl rfl rfl, by rw [hchanges], fun h => absurd h hzero, fun _ => ⟨hkept.trans hactive, rfl⟩⟩
  case entry =>
    rintro s _ rfl
    rw [State.ppuTick_hblankEntered]
    cases hon : s.ppu.lcdOn with
    | false => simp
    | true =>
      obtain ⟨hly, hd, -, hmode⟩ := State.ppuTick_position hon
      rw [hly, hd, hmode]
      refine ⟨?_, fun _ hlen => ?_⟩
      · simp only [true_and, State.enters, and_comm]
      · simp only [true_and]
        rw [and_comm]
        exact and_congr_right fun hvisible => State.enters_hblank_iff hon hlen hvisible

end Sys2Proof.Machine
